-- ==== Sys2Proof/Word.lean ====
section
/-! DEFINITION. The widths the spec gives the block's words (spec/00_scope.md R9). -/

namespace Sys2Proof

/-- A byte: 8 bits (R9). -/
abbrev Byte := BitVec 8

/-- A Modbus word, a CRC value or a frame register: 16 bits (R9). -/
abbrev Half := BitVec 16

/-- A command word or a read-port word: 32 bits (R9). -/
abbrev Word := BitVec 32

/-- A read-port word address: 12 bits (20_memory R74). -/
abbrev Addr := BitVec 12

end Sys2Proof
end

