-- ==== Sys2Proof/Syntax.lean ====
section
/-! DEFINITION. The 17 commands of PZCD-1, one constructor per row of spec/opcode_table.json
(spec/30_encoding.md R102). An operand has exactly the width of its field (R101). -/

namespace Sys2Proof

/-- A command: the block's instruction (R100 to R102). -/
inductive Instr where
  /-- NOP (41_config R160) -/
  | nop
  /-- CLR_ILLEGAL (41_config R161) -/
  | clrIllegal
  /-- CRC_INIT (40_crc R146) -/
  | crcInit
  /-- CRC_BYTE b (40_crc R147) -/
  | crcByte (b : Byte)
  /-- SET_ADDR a (41_config R162) -/
  | setAddr (a : Byte)
  /-- SET_FUNC f (41_config R163) -/
  | setFunc (f : Byte)
  /-- SET_COUNT n (41_config R164) -/
  | setCount (n : Half)
  /-- SET_START a (41_config R165) -/
  | setStart (a : Half)
  /-- TX_CLEAR (42_tx_framing R181) -/
  | txClear
  /-- TX_BYTE b (42_tx_framing R182) -/
  | txByte (b : Byte)
  /-- TX_SEAL (42_tx_framing R183) -/
  | txSeal
  /-- TX_BUILD_READ (42_tx_framing R184) -/
  | txBuildRead
  /-- RX_CLEAR (43_rx_validation R201) -/
  | rxClear
  /-- RX_BYTE b (43_rx_validation R202) -/
  | rxByte (b : Byte)
  /-- VALIDATE_REGS (43_rx_validation R212) -/
  | validateRegs
  /-- VALIDATE_ACK len (43_rx_validation R213) -/
  | validateAck (len : Byte)
  /-- TIMEOUT (43_rx_validation R214) -/
  | timeout
deriving DecidableEq, Repr

end Sys2Proof
end

