-- ==== Sys2Proof/WellFormed.lean ====
section
/-! DEFINITION. The checks a command passes before it runs: an unused operand field is zero
(spec/30_encoding.md R101, R110), and an immediate written in a source line is present exactly when the command
has an operand and lies in its field's range (R113). -/

namespace Sys2Proof

/-- Which operand field a command uses (the A and D columns of R102). -/
inductive OperandUse where
  | unused
  | byteA
  | halfD
deriving DecidableEq, Repr

/-- A command word split into its fields, format OP-A-D (R100). -/
structure Fields where
  op : Byte
  a : Byte
  d : Half
deriving DecidableEq, Repr

/-- The A field is used, or zero (R110). -/
def OperandUse.aFits (u : OperandUse) (f : Fields) : Bool :=
  match u with
  | .byteA => true
  | .unused | .halfD => f.a == 0#8

/-- The D field is used, or zero (R110). -/
def OperandUse.dFits (u : OperandUse) (f : Fields) : Bool :=
  match u with
  | .halfD => true
  | .unused | .byteA => f.d == 0#16

/-- The immediate of a source line fits the command: none where there is no operand, 0 to 255 for an A operand,
0 to 65535 for a D operand (R113). -/
def OperandUse.admits (u : OperandUse) (imm : Option Nat) : Bool :=
  match u, imm with
  | .unused, none => true
  | .byteA, some n => decide (n ≤ 255)
  | .halfD, some n => decide (n ≤ 65535)
  | .unused, some _ | .byteA, none | .halfD, none => false

/-- Which operand field each command uses (R102). -/
def Instr.use : Instr → OperandUse
  | .crcByte _ | .setAddr _ | .setFunc _ | .txByte _ | .rxByte _ | .validateAck _ => .byteA
  | .setCount _ | .setStart _ => .halfD
  | .nop | .clrIllegal | .crcInit | .txClear | .txSeal | .txBuildRead | .rxClear | .validateRegs | .timeout => .unused

/-- The value of the command's operand, an unsigned immediate (R101). -/
def Instr.operand : Instr → Option Nat
  | .crcByte b | .setAddr b | .setFunc b | .txByte b | .rxByte b | .validateAck b => some b.toNat
  | .setCount n | .setStart n => some n.toNat
  | .nop | .clrIllegal | .crcInit | .txClear | .txSeal | .txBuildRead | .rxClear | .validateRegs | .timeout => none

/-- A command is well-formed when its operand fits its field (R101). An operand carries its field's width in its type,
so every command is well-formed (Laws.Instr.wf_all). -/
def Instr.wf (i : Instr) : Bool := i.use.admits i.operand

end Sys2Proof
end

