-- ==== Sys2Proof/Decode.lean ====
section
/-! DEFINITION. Decoding a command word, total on all 2^32 words and rejecting by name, and the encoder
(spec/30_encoding.md R100 to R102, R110 to R112; spec/opcode_table.json). -/

namespace Sys2Proof

/-- The 17 assigned OP values by name (R102). -/
inductive Opcode where
  | nop | clrIllegal | crcInit | crcByte | setAddr | setFunc | setCount | setStart
  | txClear | txByte | txSeal | txBuildRead | rxClear | rxByte | validateRegs | validateAck | timeout
deriving DecidableEq, Repr

/-- Every opcode, in the order of R102. -/
def Opcode.all : List Opcode :=
  [.nop, .clrIllegal, .crcInit, .crcByte, .setAddr, .setFunc, .setCount, .setStart,
   .txClear, .txByte, .txSeal, .txBuildRead, .rxClear, .rxByte, .validateRegs, .validateAck, .timeout]

/-- The OP column of R102. -/
def Opcode.code : Opcode → Byte
  | .nop => 0x00#8
  | .clrIllegal => 0x01#8
  | .crcInit => 0x08#8
  | .crcByte => 0x09#8
  | .setAddr => 0x10#8
  | .setFunc => 0x11#8
  | .setCount => 0x12#8
  | .setStart => 0x13#8
  | .txClear => 0x20#8
  | .txByte => 0x21#8
  | .txSeal => 0x22#8
  | .txBuildRead => 0x23#8
  | .rxClear => 0x30#8
  | .rxByte => 0x31#8
  | .validateRegs => 0x32#8
  | .validateAck => 0x33#8
  | .timeout => 0x34#8

/-- The A and D columns of R102. -/
def Opcode.use : Opcode → OperandUse
  | .crcByte | .setAddr | .setFunc | .txByte | .rxByte | .validateAck => .byteA
  | .setCount | .setStart => .halfD
  | .nop | .clrIllegal | .crcInit | .txClear | .txSeal | .txBuildRead | .rxClear | .validateRegs | .timeout => .unused

/-- The opcode whose code is `b`, if any (R110: "OP is not a row of rule R102"). -/
def Opcode.ofCode (b : Byte) : Option Opcode := Opcode.all.find? fun o => o.code == b

/-- The command an opcode and its operand fields stand for (R101, R102). -/
def Opcode.instr (o : Opcode) (a : Byte) (d : Half) : Instr :=
  match o with
  | .nop => .nop
  | .clrIllegal => .clrIllegal
  | .crcInit => .crcInit
  | .crcByte => .crcByte a
  | .setAddr => .setAddr a
  | .setFunc => .setFunc a
  | .setCount => .setCount d
  | .setStart => .setStart d
  | .txClear => .txClear
  | .txByte => .txByte a
  | .txSeal => .txSeal
  | .txBuildRead => .txBuildRead
  | .rxClear => .rxClear
  | .rxByte => .rxByte a
  | .validateRegs => .validateRegs
  | .validateAck => .validateAck a
  | .timeout => .timeout

/-- Why a word is illegal, in the order R110 tests. -/
inductive IllegalWord where
  /-- OP is not a row of R102 -/
  | unassignedOp
  /-- the row has A = 0 and the word does not -/
  | nonzeroA
  /-- the row has D = 0 and the word does not -/
  | nonzeroD
deriving DecidableEq, Repr

/-- What decoding answers: one command, or illegal with its reason (R110, R111). -/
inductive Decoded where
  | command (i : Instr)
  | illegal (why : IllegalWord)
deriving DecidableEq, Repr

/-- OP = cmd[31:24], A = cmd[23:16], D = cmd[15:0] (R100). -/
def fieldsOf (w : Word) : Fields :=
  { op := w.extractLsb' 24 8, a := w.extractLsb' 16 8, d := w.extractLsb' 0 16 }

/-- The decision of R110 on the fields. -/
def decodeFields (f : Fields) : Decoded :=
  match Opcode.ofCode f.op with
  | none => .illegal .unassignedOp
  | some o =>
    if o.use.aFits f then
      if o.use.dFits f then .command (o.instr f.a f.d) else .illegal .nonzeroD
    else .illegal .nonzeroA

/-- Command decode (R110). -/
def decode (w : Word) : Decoded := decodeFields (fieldsOf w)

/-- The opcode of a command (R102). -/
def Instr.opcode : Instr → Opcode
  | .nop => .nop
  | .clrIllegal => .clrIllegal
  | .crcInit => .crcInit
  | .crcByte _ => .crcByte
  | .setAddr _ => .setAddr
  | .setFunc _ => .setFunc
  | .setCount _ => .setCount
  | .setStart _ => .setStart
  | .txClear => .txClear
  | .txByte _ => .txByte
  | .txSeal => .txSeal
  | .txBuildRead => .txBuildRead
  | .rxClear => .rxClear
  | .rxByte _ => .rxByte
  | .validateRegs => .validateRegs
  | .validateAck _ => .validateAck
  | .timeout => .timeout

/-- The A field of a command's word: its byte operand, or zero (R101, R113). -/
def Instr.fieldA : Instr → Byte
  | .crcByte b | .setAddr b | .setFunc b | .txByte b | .rxByte b | .validateAck b => b
  | .setCount _ | .setStart _ | .nop | .clrIllegal | .crcInit | .txClear | .txSeal | .txBuildRead | .rxClear
  | .validateRegs | .timeout => 0#8

/-- The D field of a command's word: its word operand, or zero (R101, R113). -/
def Instr.fieldD : Instr → Half
  | .setCount n | .setStart n => n
  | .crcByte _ | .setAddr _ | .setFunc _ | .txByte _ | .rxByte _ | .validateAck _
  | .nop | .clrIllegal | .crcInit | .txClear | .txSeal | .txBuildRead | .rxClear | .validateRegs | .timeout => 0#16

/-- `{OP, A, D}` (R113), OP in the most significant bits (R10, R100). -/
def Fields.word (f : Fields) : Word := (f.op ++ f.a) ++ f.d

/-- The word of a command: `{OP, A, D}` with the unused field 0 (R113). -/
def encode (i : Instr) : Word := Fields.word { op := i.opcode.code, a := i.fieldA, d := i.fieldD }

/-- The command the decoder reads from a table word: a command is one 32-bit word (R112), so a shorter row's missing
high bits are zero, and no row is longer. -/
def decodeTableWord (nbits w : Nat) : Option Instr :=
  if nbits ≤ 32 then
    match decode (BitVec.ofNat 32 (w % 2 ^ nbits)) with
    | .command i => some i
    | .illegal _ => none
  else none

/-- A row of spec/opcode_table.json: a word is the row's when the bits under `mask` equal `bits`. -/
structure TableRow where
  mnemonic : String
  bits : Word
  mask : Word
deriving DecidableEq, Repr

/-- The word matches the row. -/
def TableRow.accepts (r : TableRow) (w : Word) : Bool := w &&& r.mask == r.bits

/-- spec/opcode_table.json, row by row: mnemonic, match, mask. -/
def opcodeTable : List TableRow :=
  [⟨"NOP", 0x00000000#32, 0xFFFFFFFF#32⟩, ⟨"CLR_ILLEGAL", 0x01000000#32, 0xFFFFFFFF#32⟩,
   ⟨"CRC_INIT", 0x08000000#32, 0xFFFFFFFF#32⟩, ⟨"CRC_BYTE", 0x09000000#32, 0xFF00FFFF#32⟩] ++
  [⟨"SET_ADDR", 0x10000000#32, 0xFF00FFFF#32⟩, ⟨"SET_FUNC", 0x11000000#32, 0xFF00FFFF#32⟩,
   ⟨"SET_COUNT", 0x12000000#32, 0xFFFF0000#32⟩, ⟨"SET_START", 0x13000000#32, 0xFFFF0000#32⟩] ++
  [⟨"TX_CLEAR", 0x20000000#32, 0xFFFFFFFF#32⟩, ⟨"TX_BYTE", 0x21000000#32, 0xFF00FFFF#32⟩,
   ⟨"TX_SEAL", 0x22000000#32, 0xFFFFFFFF#32⟩, ⟨"TX_BUILD_READ", 0x23000000#32, 0xFFFFFFFF#32⟩] ++
  [⟨"RX_CLEAR", 0x30000000#32, 0xFFFFFFFF#32⟩, ⟨"RX_BYTE", 0x31000000#32, 0xFF00FFFF#32⟩,
   ⟨"VALIDATE_REGS", 0x32000000#32, 0xFFFFFFFF#32⟩, ⟨"VALIDATE_ACK", 0x33000000#32, 0xFF00FFFF#32⟩,
   ⟨"TIMEOUT", 0x34000000#32, 0xFFFFFFFF#32⟩]

/-- The mnemonic of an opcode (R102). -/
def Opcode.mnemonic : Opcode → String
  | .nop => "NOP"
  | .clrIllegal => "CLR_ILLEGAL"
  | .crcInit => "CRC_INIT"
  | .crcByte => "CRC_BYTE"
  | .setAddr => "SET_ADDR"
  | .setFunc => "SET_FUNC"
  | .setCount => "SET_COUNT"
  | .setStart => "SET_START"
  | .txClear => "TX_CLEAR"
  | .txByte => "TX_BYTE"
  | .txSeal => "TX_SEAL"
  | .txBuildRead => "TX_BUILD_READ"
  | .rxClear => "RX_CLEAR"
  | .rxByte => "RX_BYTE"
  | .validateRegs => "VALIDATE_REGS"
  | .validateAck => "VALIDATE_ACK"
  | .timeout => "TIMEOUT"

end Sys2Proof
end

