-- ==== Sys2Proof/Config.lean ====
section
/-! DEFINITION. What an implementation fixes and what the spec leaves free (spec/00_scope.md R7,
spec/93_implementation_defined.md section B). -/

namespace Sys2Proof

/-- The instance's buffer capacities, the spec's model arguments RX_CAP and TX_CAP (R7).
They are carried in State as a constant, so that a claim about every state covers every capacity (log 1). -/
structure Caps where
  rx : Nat
  tx : Nat
deriving DecidableEq, Repr

namespace Config

/-- RX_CAP = TX_CAP = 256, the values of this spec's instance (R7, 92 D8). -/
def caps : Caps := { rx := 256, tx := 256 }

/-- The constraint a model argument must satisfy: 25 <= RX_CAP <= 256 and 8 <= TX_CAP <= 256 (R7, R8). -/
abbrev legalCaps (c : Caps) : Prop :=
  25 ≤ c.rx ∧ c.rx ≤ 256 ∧ 8 ≤ c.tx ∧ c.tx ≤ 256

/-- The unspecified word the read port returns while a command is in progress: one free value per draw
(20_memory R78; log 3). It has no body, so no claim can rest on its value. -/
opaque busyReadWord : Nat → Word

/-- How far CMD_LATENCY_MAX exceeds its least value 1; the spec leaves it OPEN (R7, 92 D34; log 5). -/
opaque extraLatency : Nat

/-- CMD_LATENCY_MAX: any finite bound of at least one cycle (R7; log 5). -/
def cmdLatencyMax : Nat := extraLatency + 1

end Config

end Sys2Proof
end

