-- ==== Sys2Proof/Machine/State.lean ====
section
/-! DEFINITION. The architectural state (spec/10_state.md R31, R44, R46), the reasons a step could stop, and the state
after reset. -/

namespace Sys2Proof.Machine

/-- ERR_KIND (60_exceptions R301). -/
inductive ErrKind where
  | none
  | timeoutError
  | protocolError
  | frameError
deriving DecidableEq, Repr

/-- CAUSE, the eleven codes that occur (60_exceptions R302); 11 to 15 never do, so they have no constructor (log 11). -/
inductive Cause where
  | none
  | timeout
  | overflow
  | short
  | addr
  | devexc
  | func
  | bcount
  | crc
  | len
  | regs
deriving DecidableEq, Repr

/-- MODE: which validation recorded the outcome; `regs` also when there is none (10_state R40). -/
inductive ValidateMode where
  | regs
  | ack
deriving DecidableEq, Repr

/-- CHECKS: the nine stored bits, set where a check failed (10_state R41). -/
structure Checks where
  ovf : Bool
  short : Bool
  addr : Bool
  devexc : Bool
  func : Bool
  bcount : Bool
  crc : Bool
  len : Bool
  regs : Bool
deriving DecidableEq, Repr

/-- No check failed, or none was made. -/
def Checks.clear : Checks :=
  { ovf := false, short := false, addr := false, devexc := false, func := false, bcount := false, crc := false,
    len := false, regs := false }

/-- The result group of 10_state R47: what a validation or TIMEOUT records. -/
structure Result where
  valid : Bool
  done : Bool
  errKind : ErrKind
  cause : Cause
  excCode : Byte
  mode : ValidateMode
  checks : Checks
  calcCrc : Half
  recvCrc : Half
  reg : Vector Half 10
deriving DecidableEq, Repr

/-- What clear_result writes, field by field (43_rx_validation R203), which is also the group's reset value (R46). -/
def Result.cleared : Result :=
  { valid := false, done := false, errKind := .none, cause := .none, excCode := 0#8, mode := .regs,
    checks := Checks.clear, calcCrc := 0#16, recvCrc := 0#16, reg := Vector.replicate 10 0#16 }

/-- A command that was accepted and is not complete (20_memory R72): its word and the edges it has waited. -/
structure InFlight where
  word : Word
  waited : Nat
deriving DecidableEq, Repr

/-- What the host does next at the block's ports (20_memory R70, R73, R86; log 2). -/
inductive HostAction where
  /-- offer a command word until it is accepted and complete (R71, R72) -/
  | command (w : Word)
  /-- read the word at an address of the read space (R74) -/
  | read (a : Addr)
  /-- assert `rst` for one or more edges and release it (70_reset_and_hazards R340) -/
  | reset
deriving DecidableEq, Repr

/-- The state of the block (10_state R31, R44), with its constants RX_CAP and TX_CAP (00_scope R7) and the model's own
`host` and `draws` (logs 1 to 3). -/
structure State where
  /-- CRC accumulator (10_state R35) -/
  crc : Half
  /-- EXP_ADDR (R36) -/
  expAddr : Byte
  /-- EXP_FUNC (R36) -/
  expFunc : Byte
  /-- EXP_COUNT (R36) -/
  expCount : Half
  /-- START (R36) -/
  start : Half
  /-- receive buffer, byte 0 first (R38) -/
  rx : List Byte
  /-- RX_OVF (R38) -/
  rxOvf : Bool
  /-- transmit buffer, byte 0 first (R39) -/
  tx : List Byte
  /-- TX_OVF (R39) -/
  txOvf : Bool
  /-- ILLEGAL (R40) -/
  illegal : Bool
  /-- the result group (R40 to R42, R32) -/
  result : Result
  /-- RX_CAP and TX_CAP, constant (00_scope R7, 10_state R45) -/
  caps : Caps
  /-- cmd_ready (10_state R44, 20_memory R70) -/
  cmdReady : Bool
  /-- the command in progress, if any (20_memory R72) -/
  inFlight : Option InFlight
  /-- the host's coming actions, oldest first (the model's own) -/
  host : List HostAction
  /-- rd_data as last driven (20_memory R70) -/
  rdData : Word
  /-- how many unspecified read words have been drawn (the model's own; 20_memory R78) -/
  draws : Nat
deriving DecidableEq, Repr

/-- Why a step could stop with a fault. No constructor: the block has no trap, and the spec defines every command on
every state (60_exceptions R300, R306; 93 section D). -/
inductive Fault
deriving DecidableEq, Repr

/-- Why a step could be refused. -/
inductive Refusal where
  /-- Raised by an arm of exec that has no meaning yet, by mnemonic; no arm raises it now. Safe: the model stops. -/
  | notModelled (mnemonic : String)
deriving DecidableEq, Repr

/-- The state right after reset: the table of 10_state R46, with cmd_ready driven to 1 by the first edge with rst = 0
(70_reset_and_hazards R340; log 6) and the values logs 1, 2, 3 and 7 name. -/
def State.reset : State :=
  { crc := 0xFFFF#16
    expAddr := 0xF8#8
    expFunc := 0x04#8
    expCount := 10#16
    start := 0x0000#16
    rx := []
    rxOvf := false
    tx := []
    txOvf := false
    illegal := false
    result := Result.cleared
    caps := Config.caps
    cmdReady := true
    inFlight := none
    host := []
    rdData := 0#32
    draws := 0 }

end Sys2Proof.Machine
end

