-- ==== Sys2Proof/Machine/Ops.lean ====
section
/-! DEFINITION. The named operations over State: one writer per field, clear_result, the recording of an outcome (what
stands in this block where another machine takes an exception, spec/60_exceptions.md R300, R306), the illegal word and
the hardware reset. There is no memory: the block has no writable location (spec/20_memory.md R74), and its two byte
buffers are lists of bounded length (spec/10_state.md R38, R39). -/

namespace Sys2Proof.Machine

namespace State

def setCrc (s : State) (v : Half) : State := { s with crc := v }

def setExpAddr (s : State) (v : Byte) : State := { s with expAddr := v }

def setExpFunc (s : State) (v : Byte) : State := { s with expFunc := v }

def setExpCount (s : State) (v : Half) : State := { s with expCount := v }

def setStart (s : State) (v : Half) : State := { s with start := v }

def setRx (s : State) (v : List Byte) : State := { s with rx := v }

def setRxOvf (s : State) (v : Bool) : State := { s with rxOvf := v }

def setTx (s : State) (v : List Byte) : State := { s with tx := v }

def setTxOvf (s : State) (v : Bool) : State := { s with txOvf := v }

def setIllegal (s : State) (v : Bool) : State := { s with illegal := v }

def setResult (s : State) (v : Result) : State := { s with result := v }

/-- The command port: cmd_ready and the command in progress (20_memory R72). -/
def setPort (s : State) (ready : Bool) (f : Option InFlight) : State := { s with cmdReady := ready, inFlight := f }

def setHost (s : State) (v : List HostAction) : State := { s with host := v }

/-- The read port: the word driven and the number of words drawn (20_memory R74, R78). -/
def setRead (s : State) (v : Word) (n : Nat) : State := { s with rdData := v, draws := n }

end State

/-- clear_result(S): the whole result group to zero (43_rx_validation R203). -/
def clearResult (s : State) : State := s.setResult Result.cleared

/-- Recording an outcome: the result group is replaced as a whole (60_exceptions R300, R307). Nothing is saved, no mode
changes and control goes nowhere (R306). -/
def recordOutcome (r : Result) (s : State) : State := s.setResult r

/-- An illegal word: ILLEGAL <- 1 and no other field changes (30_encoding R110, 60_exceptions R304). -/
def flagIllegal (s : State) : State := s.setIllegal true

/-- What reset does to the stored fields: the table of 10_state R46, any command in progress abandoned without its
writes (70_reset_and_hazards R340). The capacities are constants (10_state R45), and the host's actions and the read
port are not state of R31 (log 15). -/
def resetFields (s : State) : State :=
  { State.reset with caps := s.caps, host := s.host, rdData := s.rdData, draws := s.draws }

end Sys2Proof.Machine
end

