-- ==== Sys2Proof/Machine/Control.lean ====
section
/-! DEFINITION. The control and configuration commands (spec/41_config.md R160 to R165). -/

namespace Sys2Proof.Machine

/-- NOP: nothing (R160). -/
def execNop (s : State) : Host.Outcome State Fault Refusal := .next s

/-- CLR_ILLEGAL: ILLEGAL <- 0 (R161). -/
def execClrIllegal (s : State) : Host.Outcome State Fault Refusal := .next (s.setIllegal false)

/-- SET_ADDR a: EXP_ADDR <- a (R162). -/
def execSetAddr (a : Byte) (s : State) : Host.Outcome State Fault Refusal := .next (s.setExpAddr a)

/-- SET_FUNC f: EXP_FUNC <- f (R163). -/
def execSetFunc (f : Byte) (s : State) : Host.Outcome State Fault Refusal := .next (s.setExpFunc f)

/-- SET_COUNT n: EXP_COUNT <- n (R164). -/
def execSetCount (n : Half) (s : State) : Host.Outcome State Fault Refusal := .next (s.setExpCount n)

/-- SET_START a: START <- a (R165). -/
def execSetStart (a : Half) (s : State) : Host.Outcome State Fault Refusal := .next (s.setStart a)

end Sys2Proof.Machine
end

