-- ==== Sys2Proof/Machine/Operands.lean ====
section
/-! DEFINITION. Operand forms and byte orders: the halves of a 16-bit value, the assembly of a value from bytes, and a
byte of a frame (spec/20_memory.md R83, spec/30_encoding.md R103, R104, R109). Command operands are immediates used as
they stand (R101), so they need no other form. -/

namespace Sys2Proof.Machine

/-- v[7:0] (00_scope R10). -/
def loByte (v : Half) : Byte := v.extractLsb' 0 8

/-- v[15:8] (00_scope R10). -/
def hiByte (v : Half) : Byte := v.extractLsb' 8 8

/-- {hi, lo}: the 16-bit value of two bytes, whichever order they arrived in (00_scope R10). -/
def halfOf (hi lo : Byte) : Half := hi ++ lo

/-- comb(lo, hi) = zext_32(lo) + (zext_32(hi) << 16) = {hi, lo} (44_decoder R242). -/
def comb (lo hi : Half) : Word := hi ++ lo

/-- zext_32 of a 16-bit value (00_scope R10). -/
def zext32 (v : Half) : Word := v.setWidth 32

/-- Byte i of a frame. Past the end it answers 0, which the read port returns there (20_memory R75) and the checks
never use (log 10). -/
def byteAt (frame : List Byte) (i : Nat) : Byte := frame.getD i 0#8

/-- Payload register i of a normal response, {rx[3 + 2i], rx[4 + 2i]}, high byte first (30_encoding R109; log 9). -/
def payloadReg (frame : List Byte) (i : Nat) : Half := halfOf (byteAt frame (3 + 2 * i)) (byteAt frame (4 + 2 * i))

/-- The ten registers VALIDATE_REGS loads (44_decoder R243). -/
def payloadRegs (frame : List Byte) : Vector Half 10 := Vector.ofFn fun i => payloadReg frame i.val

/-- The trailer of a frame read low byte first, {rx[n-1], rx[n-2]} (43_rx_validation R208). -/
def trailerOf (frame : List Byte) : Half :=
  halfOf (byteAt frame (frame.length - 1)) (byteAt frame (frame.length - 2))

/-- The bytes before the trailer, rx[0 .. n-3] (43_rx_validation R208). -/
def bodyOf (frame : List Byte) : List Byte := frame.take (frame.length - 2)

end Sys2Proof.Machine
end

