-- ==== Sys2Proof/Machine/Flags.lean ====
section
/-! DEFINITION. The codes of ERR_KIND, CAUSE, MODE and CHECKS, the priority of the checks, and the STATUS word
(spec/10_state.md R40, R41; spec/43_rx_validation.md R211; spec/60_exceptions.md R301, R302). -/

namespace Sys2Proof.Machine

/-- One bit as a bit vector. -/
def bit (b : Bool) : BitVec 1 := BitVec.ofBool b

/-- ERR_KIND codes (60_exceptions R301). -/
def ErrKind.code : ErrKind → BitVec 2
  | .none => 0#2
  | .timeoutError => 1#2
  | .protocolError => 2#2
  | .frameError => 3#2

/-- CAUSE codes (60_exceptions R302). -/
def Cause.code : Cause → BitVec 4
  | .none => 0#4
  | .timeout => 1#4
  | .overflow => 2#4
  | .short => 3#4
  | .addr => 4#4
  | .devexc => 5#4
  | .func => 6#4
  | .bcount => 7#4
  | .crc => 8#4
  | .len => 9#4
  | .regs => 10#4

/-- The class of a cause (43_rx_validation R211, 60_exceptions R302). -/
def Cause.kind : Cause → ErrKind
  | .none => .none
  | .timeout => .timeoutError
  | .overflow | .short | .len | .regs => .frameError
  | .addr | .devexc | .func | .bcount | .crc => .protocolError

/-- MODE codes (10_state R40). -/
def ValidateMode.code : ValidateMode → BitVec 1
  | .regs => 0#1
  | .ack => 1#1

/-- The first failed check in the order of 43_rx_validation R211. -/
def Checks.cause (k : Checks) : Cause :=
  if k.ovf then .overflow
  else if k.short then .short
  else if k.addr then .addr
  else if k.devexc then .devexc
  else if k.func then .func
  else if k.bcount then .bcount
  else if k.crc then .crc
  else if k.len then .len
  else if k.regs then .regs
  else .none

/-- The CHECKS word's nine bits, bit 0 OVF to bit 8 REGS (10_state R41). -/
def Checks.bits (k : Checks) : BitVec 9 :=
  bit k.regs ++ (bit k.len ++ (bit k.crc ++ (bit k.bcount ++ (bit k.func ++ (bit k.devexc ++ (bit k.addr ++
    (bit k.short ++ bit k.ovf)))))))

/-- ALARM_ACTIVE = VALID & (REG[9] != 0), derived (44_decoder R251). -/
def alarmActive (s : State) : Bool := s.result.valid && s.result.reg[9] != 0#16

/-- The STATUS word: reserved [31:21], ALARM_ACTIVE [20], ILLEGAL [19], TX_OVF [18], RX_OVF [17], MODE [16],
EXC_CODE [15:8], CAUSE [7:4], ERR_KIND [3:2], DONE [1], VALID [0] (10_state R40). -/
def statusWord (s : State) : Word :=
  0#11 ++ (bit (alarmActive s) ++ (bit s.illegal ++ (bit s.txOvf ++ (bit s.rxOvf ++ (s.result.mode.code ++
    (s.result.excCode ++ (s.result.cause.code ++ (s.result.errKind.code ++ (bit s.result.done ++
      bit s.result.valid)))))))))

end Sys2Proof.Machine
end

