-- ==== Sys2Proof/Machine/Rx.lean ====
section
/-! DEFINITION. Receive and validation (spec/43_rx_validation.md R200 to R216). -/

namespace Sys2Proof.Machine

/-- The checks are made only on a buffer that did not overflow and holds at least 4 bytes (R203). -/
def evaluable (s : State) : Bool := !s.rxOvf && decide (4 ≤ s.rx.length)

/-- devexc: EXP_FUNC[7] = 0 and rx[1] = EXP_FUNC | 0x80 (R205; log 9). -/
def isDevexc (s : State) : Bool := !s.expFunc.getLsbD 7 && byteAt s.rx 1 == (s.expFunc ||| 0x80#8)

/-- Lexp, the length the frame's type requires (R209). -/
def expectedLen (m : ValidateMode) (len : Nat) (s : State) : Nat :=
  if isDevexc s then 5
  else
    match m with
    | .regs => 5 + 2 * s.expCount.toNat
    | .ack => len

/-- m = REGS. -/
def ValidateMode.isRegs : ValidateMode → Bool
  | .regs => true
  | .ack => false

/-- The nine checks of a validation in mode m with expected acknowledgment length len (R203 to R210). -/
def checksOf (m : ValidateMode) (len : Nat) (s : State) : Checks :=
  if evaluable s then
    { ovf := false
      short := false
      addr := byteAt s.rx 0 != s.expAddr
      devexc := isDevexc s
      func := !isDevexc s && byteAt s.rx 1 != s.expFunc
      bcount := m.isRegs && !isDevexc s &&
        (decide (s.rx.length < 5) || (byteAt s.rx 2).toNat != 2 * s.expCount.toNat)
      crc := crc16 (bodyOf s.rx) != trailerOf s.rx
      len := s.rx.length != expectedLen m len s
      regs := m.isRegs && !isDevexc s && decide (s.expCount.toNat < 10) }
  else
    { Checks.clear with ovf := s.rxOvf, short := decide (s.rx.length < 4) }

/-- exc: byte 2 of a device exception response of at least 5 bytes, else 0 (R205). -/
def excCodeOf (s : State) : Byte :=
  if evaluable s && isDevexc s && decide (5 ≤ s.rx.length) then byteAt s.rx 2 else 0#8

/-- calc: the CRC of the bytes before the trailer, 0 when not evaluable (R203, R208). -/
def calcCrcOf (s : State) : Half := if evaluable s then crc16 (bodyOf s.rx) else 0#16

/-- recv: the trailer, 0 when not evaluable (R203, R208). -/
def recvCrcOf (s : State) : Half := if evaluable s then trailerOf s.rx else 0#16

/-- The outcome both validation commands record: clear_result, the checks, and R211 applied to them
(R212, R213). -/
def outcomeOf (m : ValidateMode) (len : Nat) (s : State) : Result :=
  { Result.cleared with
    done := true
    errKind := (checksOf m len s).cause.kind
    cause := (checksOf m len s).cause
    excCode := excCodeOf s
    mode := m
    checks := checksOf m len s
    calcCrc := calcCrcOf s
    recvCrc := recvCrcOf s }

/-- The loading of the frame registers when no check failed: REG[i] <- {rx[3 + 2i], rx[4 + 2i]}, VALID <- 1 (R212). -/
def loadRegs (r : Result) (frame : List Byte) : Result :=
  if r.cause = .none then { r with valid := true, reg := payloadRegs frame } else r

/-- RX_CLEAR: rx <- [], RX_OVF <- 0, clear_result (R201). -/
def execRxClear (s : State) : Host.Outcome State Fault Refusal := .next (clearResult ((s.setRx []).setRxOvf false))

/-- Append one received byte if len(rx) < RX_CAP, else RX_OVF <- 1 and the byte is dropped (R202). -/
def rxAppend (b : Byte) (s : State) : State :=
  if s.rx.length < s.caps.rx then s.setRx (s.rx ++ [b]) else s.setRxOvf true

/-- RX_BYTE b: append or drop, then clear_result (R202). -/
def execRxByte (b : Byte) (s : State) : Host.Outcome State Fault Refusal := .next (clearResult (rxAppend b s))

/-- VALIDATE_REGS (R212). -/
def execValidateRegs (s : State) : Host.Outcome State Fault Refusal :=
  .next (recordOutcome (loadRegs (outcomeOf .regs 0 s) s.rx) s)

/-- VALIDATE_ACK len: VALID and REG stay 0 (R213). -/
def execValidateAck (len : Byte) (s : State) : Host.Outcome State Fault Refusal :=
  .next (recordOutcome (outcomeOf .ack len.toNat s) s)

/-- TIMEOUT: clear_result, ERR_KIND <- 1, CAUSE <- 1, DONE <- 1 (R214). -/
def execTimeout (s : State) : Host.Outcome State Fault Refusal :=
  .next (recordOutcome { Result.cleared with done := true, errKind := .timeoutError, cause := .timeout } s)

end Sys2Proof.Machine
end

