-- ==== Sys2Proof/Machine/Tx.lean ====
section
/-! DEFINITION. Transmit framing (spec/42_tx_framing.md R180 to R186). -/

namespace Sys2Proof.Machine

/-- Append bytes to tx if they all fit, else set TX_OVF and append nothing: a byte that does not fit is dropped (R182)
and a trailer is never split (R183). -/
def txAppend (bs : List Byte) (s : State) : State :=
  if s.tx.length + bs.length ≤ s.caps.tx then s.setTx (s.tx ++ bs) else s.setTxOvf true

/-- The six bytes of a read request before its CRC: address, function code, start and count high byte first
(R184, 30_encoding R103). -/
def readRequestHead (s : State) : List Byte :=
  [s.expAddr, s.expFunc, hiByte s.start, loByte s.start, hiByte s.expCount, loByte s.expCount]

/-- TX_CLEAR: tx <- [], TX_OVF <- 0 (R181). -/
def execTxClear (s : State) : Host.Outcome State Fault Refusal := .next ((s.setTx []).setTxOvf false)

/-- TX_BYTE b: append b if len(tx) < TX_CAP, else TX_OVF <- 1 (R182). -/
def execTxByte (b : Byte) (s : State) : Host.Outcome State Fault Refusal := .next (txAppend [b] s)

/-- TX_SEAL: append the CRC of the whole buffer, low byte first, if len(tx) <= TX_CAP - 2, else TX_OVF <- 1 (R183). -/
def execTxSeal (s : State) : Host.Outcome State Fault Refusal := .next (txAppend (trailer s.tx) s)

/-- TX_BUILD_READ: tx <- the complete read request, TX_OVF <- 0 (R184). -/
def execTxBuildRead (s : State) : Host.Outcome State Fault Refusal :=
  .next ((s.setTx (readRequestHead s ++ trailer (readRequestHead s))).setTxOvf false)

end Sys2Proof.Machine
end

