-- ==== Sys2Proof/Machine/Dispatch.lean ====
section
/-! DEFINITION. The meaning of every command, one arm per constructor of Instr (spec/30_encoding.md R102). -/

namespace Sys2Proof.Machine

-- One direct call a line: the host reads this file arm by arm.
def exec (i : Instr) (s : State) : Host.Outcome State Fault Refusal :=
  match i with
  | .nop => Sys2Proof.Machine.execNop s
  | .clrIllegal => Sys2Proof.Machine.execClrIllegal s
  | .crcInit => Sys2Proof.Machine.execCrcInit s
  | .crcByte b => Sys2Proof.Machine.execCrcByte b s
  | .setAddr a => Sys2Proof.Machine.execSetAddr a s
  | .setFunc f => Sys2Proof.Machine.execSetFunc f s
  | .setCount n => Sys2Proof.Machine.execSetCount n s
  | .setStart a => Sys2Proof.Machine.execSetStart a s
  | .txClear => Sys2Proof.Machine.execTxClear s
  | .txByte b => Sys2Proof.Machine.execTxByte b s
  | .txSeal => Sys2Proof.Machine.execTxSeal s
  | .txBuildRead => Sys2Proof.Machine.execTxBuildRead s
  | .rxClear => Sys2Proof.Machine.execRxClear s
  | .rxByte b => Sys2Proof.Machine.execRxByte b s
  | .validateRegs => Sys2Proof.Machine.execValidateRegs s
  | .validateAck len => Sys2Proof.Machine.execValidateAck len s
  | .timeout => Sys2Proof.Machine.execTimeout s

end Sys2Proof.Machine
end

