-- ==== Sys2Proof/Machine/Measure.lean ====
section
/-! DEFINITION. The fixed-point register decoder: pure functions of the frame registers (spec/44_decoder.md R240 to
R256). -/

namespace Sys2Proof.Machine

/-- The seven quantities, k = 0 to 6 (R244 to R250). -/
inductive Quantity where
  | voltage
  | current
  | power
  | energy
  | frequency
  | powerFactor
  | alarm
deriving DecidableEq, Repr

/-- The units of R244 to R250; power factor and alarm have none. -/
inductive MeasureUnit where
  | volt
  | ampere
  | watt
  | wattHour
  | hertz
  | unitless
deriving DecidableEq, Repr

namespace Quantity

/-- The quantities in the order of k (R252). -/
def all : List Quantity := [.voltage, .current, .power, .energy, .frequency, .powerFactor, .alarm]

/-- k (R252). -/
def index : Quantity → Nat
  | .voltage => 0
  | .current => 1
  | .power => 2
  | .energy => 3
  | .frequency => 4
  | .powerFactor => 5
  | .alarm => 6

/-- The mantissa M_k (R244 to R250). -/
def mantissa (q : Quantity) (reg : Vector Half 10) : Word :=
  match q with
  | .voltage => zext32 reg[0]
  | .current => comb reg[1] reg[2]
  | .power => comb reg[3] reg[4]
  | .energy => comb reg[5] reg[6]
  | .frequency => zext32 reg[7]
  | .powerFactor => zext32 reg[8]
  | .alarm => zext32 reg[9]

/-- The divisor D_k, a positive constant (R244 to R250). -/
def divisor : Quantity → Word
  | .voltage => 10#32
  | .current => 1000#32
  | .power => 10#32
  | .energy => 1#32
  | .frequency => 10#32
  | .powerFactor => 100#32
  | .alarm => 1#32

/-- The unit of the value M_k / D_k (R244 to R250). -/
def measureUnit : Quantity → MeasureUnit
  | .voltage => .volt
  | .current => .ampere
  | .power => .watt
  | .energy => .wattHour
  | .frequency => .hertz
  | .powerFactor => .unitless
  | .alarm => .unitless

/-- The number of decimal places, log10(D_k) (R254). -/
def decimals : Quantity → Nat
  | .voltage => 1
  | .current => 3
  | .power => 1
  | .energy => 0
  | .frequency => 1
  | .powerFactor => 2
  | .alarm => 0

/-- Q_k = M_k div D_k (R241). -/
def quotient (q : Quantity) (reg : Vector Half 10) : Word := q.mantissa reg / q.divisor

/-- R_k = M_k mod D_k (R241). -/
def remainder (q : Quantity) (reg : Vector Half 10) : Word := q.mantissa reg % q.divisor

/-- The value, the exact rational number M_k / D_k (R241). -/
def value (q : Quantity) (reg : Vector Half 10) : Rat :=
  ((q.mantissa reg).toNat : Rat) / ((q.divisor).toNat : Rat)

end Quantity

/-- The n lowest decimal digits of v, leading zeros kept, most significant first (R254). -/
def decimalDigits : Nat → Nat → List Nat
  | 0, _ => []
  | n + 1, v => decimalDigits n (v / 10) ++ [v % 10]

/-- R_k written with exactly the quantity's number of decimal places (R254). -/
def Quantity.fraction (q : Quantity) (reg : Vector Half 10) : List Nat :=
  decimalDigits q.decimals (q.remainder reg).toNat

/-- The four words of a quantity: M, Q, R, D for j = 0 to 3 (R252). -/
def Quantity.word (q : Quantity) (j : Nat) (reg : Vector Half 10) : Word :=
  match j with
  | 0 => q.mantissa reg
  | 1 => q.quotient reg
  | 2 => q.remainder reg
  | _ => q.divisor

/-- The measurement word at 0x020 + i, for i = 4k + j below 28 (R252). -/
def measureWord (reg : Vector Half 10) (i : Nat) : Word :=
  match Quantity.all[i / 4]? with
  | some q => q.word (i % 4) reg
  | none => 0#32

end Sys2Proof.Machine
end

