-- ==== Sys2Proof/Machine/ReadPort.lean ====
section
/-! DEFINITION. The read space: one 32-bit word per 12-bit address, a function of the state with no side effect
(spec/20_memory.md R74 to R78). -/

namespace Sys2Proof.Machine

/-- A buffer's length in bits [8:0] of a word (20_memory R75; 10_state R38, R39; log 14). -/
def lengthWord (n : Nat) : Word := (BitVec.ofNat 9 n).setWidth 32

/-- A byte in bits [7:0] (20_memory R80). -/
def byteWord (b : Byte) : Word := b.setWidth 32

/-- VCRC: CALC_CRC in [15:0], RECV_CRC in [31:16] (10_state R42). -/
def vcrcWord (s : State) : Word := s.result.recvCrc ++ s.result.calcCrc

/-- CFG: EXP_ADDR in [7:0], EXP_FUNC in [15:8] (10_state R36). -/
def cfgWord (s : State) : Word := zext32 (halfOf s.expFunc s.expAddr)

/-- CAPS: RX_CAP in [15:0], TX_CAP in [31:16] (10_state R45). -/
def capsWord (s : State) : Word := BitVec.ofNat 16 s.caps.tx ++ BitVec.ofNat 16 s.caps.rx

/-- The word of the read space at address n (20_memory R75); every address not in the map reads 0 (R76). -/
def readWordNat (s : State) (n : Nat) : Word :=
  if n = 0x000 then statusWord s
  else if n = 0x001 then s.result.checks.bits.setWidth 32
  else if n = 0x002 then zext32 s.crc
  else if n = 0x003 then vcrcWord s
  else if n = 0x004 then cfgWord s
  else if n = 0x005 then zext32 s.expCount
  else if n = 0x006 then zext32 s.start
  else if n = 0x007 then lengthWord s.rx.length
  else if n = 0x008 then lengthWord s.tx.length
  else if n = 0x009 then capsWord s
  else if n < 0x010 then 0#32
  else if n < 0x01A then zext32 (s.result.reg[n - 0x010]?.getD 0#16)
  else if n < 0x020 then 0#32
  else if n < 0x03C then measureWord s.result.reg (n - 0x020)
  else if n < 0x100 then 0#32
  else if n < 0x200 then byteWord (byteAt s.rx (n - 0x100))
  else if n < 0x300 then byteWord (byteAt s.tx (n - 0x200))
  else if n < 0x400 then zext32 (crcTable (BitVec.ofNat 8 (n - 0x300)))
  else 0#32

/-- MemRead(addr, 4) while cmd_ready = 1 (20_memory R74). -/
def readWord (s : State) (a : Addr) : Word := readWordNat s a.toNat

/-- One use of the read port: it drives the word of the state, or a fresh unspecified word while cmd_ready = 0
(20_memory R78; log 3). Nothing else changes (R77). -/
def readAt (a : Addr) (s : State) : State :=
  if s.cmdReady then s.setRead (readWord s a) s.draws
  else s.setRead (Config.busyReadWord s.draws) (s.draws + 1)

end Sys2Proof.Machine
end

