-- ==== Sys2Proof/Machine/Port.lean ====
section
/-! DEFINITION. The command port: running a command word, the host's actions, and the pins edge by edge
(spec/20_memory.md R70 to R73, R78; spec/70_reset_and_hazards.md R340, R345, R346). -/

namespace Sys2Proof.Machine

/-- All the effect of one command word, taken together at its completion: the command it decodes to, or ILLEGAL
(20_memory R72, 30_encoding R110). -/
def runWord (w : Word) (s : State) : Host.Outcome State Fault Refusal :=
  match decode w with
  | .command i => exec i s
  | .illegal _ => .next (flagIllegal s)

/-- cmd_ready returns to 1: the command in progress completes, if there is one (20_memory R72), or the first edge after
reset has come (70_reset_and_hazards R340). -/
def becomeReady (s : State) : Host.Outcome State Fault Refusal :=
  match s.inFlight with
  | some f => runWord f.word (s.setPort true none)
  | none => .next (s.setPort true none)

/-- A host action, with `rest` the actions after it. A command offered while cmd_ready = 0 waits (20_memory R71, R72);
accepted, it runs to completion as one atomic step (R72). A read happens at any time (R78). Reset abandons a command in
progress without any of its writes (70_reset_and_hazards R340). -/
def perform (a : HostAction) (rest : List HostAction) (s : State) : Host.Outcome State Fault Refusal :=
  match a with
  | .command w => if s.cmdReady then runWord w (s.setHost rest) else becomeReady s
  | .read a => .next (readAt a (s.setHost rest))
  | .reset => .next ((resetFields s).setHost rest)

/-- With no action of the host, a command in progress completes and otherwise the state is held
(60_exceptions R316). -/
def idle (s : State) : Host.Outcome State Fault Refusal := if s.cmdReady then .next s else becomeReady s

/-- The input pins sampled at one rising edge of clk (20_memory R70). -/
structure Pins where
  rst : Bool
  cmdValid : Bool
  cmdData : Word
  rdAddr : Addr
deriving DecidableEq, Repr

/-- One clock cycle's inputs: the pins, and whether the implementation completes a command in progress at this edge.
The spec fixes no cycle count, only the bound CMD_LATENCY_MAX (20_memory R72, 70_reset_and_hazards R352; log 8). -/
structure EdgeInput where
  pins : Pins
  finish : Bool
deriving DecidableEq, Repr

/-- A command is accepted at an edge with rst = 0, cmd_valid = 1 and cmd_ready = 1 (20_memory R71). -/
def accepts (e : EdgeInput) (s : State) : Bool := !e.pins.rst && e.pins.cmdValid && s.cmdReady

/-- One rising edge with rst = 0. -/
def edgeRun (e : EdgeInput) (s : State) : Host.Outcome State Fault Refusal :=
  if s.cmdReady then
    if e.pins.cmdValid then .next (s.setPort false (some { word := e.pins.cmdData, waited := 0 })) else .next s
  else
    match s.inFlight with
    | none => .next (s.setPort true none)
    | some f =>
      if e.finish || decide (Config.cmdLatencyMax ≤ f.waited + 1) then becomeReady s
      else .next (s.setPort false (some { f with waited := f.waited + 1 }))

/-- One clock cycle: the read port drives the word for rd_addr in the state before the edge, and then the edge comes,
a reset edge when rst = 1 (20_memory R70, R74; 70_reset_and_hazards R340; log 13). -/
def clockEdge (e : EdgeInput) (s : State) : Host.Outcome State Fault Refusal :=
  if e.pins.rst then .next ((resetFields (readAt e.pins.rdAddr s)).setPort false none)
  else edgeRun e (readAt e.pins.rdAddr s)

/-- Consecutive clock cycles. -/
def runEdges : List EdgeInput → State → Host.Outcome State Fault Refusal
  | [], s => .next s
  | e :: es, s =>
    match clockEdge e s with
    | .next t => runEdges es t
    | .fault r => .fault r
    | .refused r => .refused r

/-- Command words run one after another, each atomically (20_memory R73). -/
def runWords : List Word → State → Host.Outcome State Fault Refusal
  | [], s => .next s
  | w :: ws, s =>
    match runWord w s with
    | .next t => runWords ws t
    | .fault r => .fault r
    | .refused r => .refused r

end Sys2Proof.Machine
end

