-- ==== Sys2Proof/Machine/Step.lean ====
section
/-! DEFINITION. The step: the next action of the host, one atomic step per accepted command (spec/20_memory.md R72;
log 4), and the placing of a command word where the next step takes it. -/

namespace Sys2Proof.Machine

/-- The next host action, or, when there is none, the block's own progress (20_memory R72, R73; 60_exceptions R316). -/
def step (s : State) : Host.Outcome State Fault Refusal :=
  match s.host with
  | [] => idle s
  | a :: rest => perform a rest s

/-- The block fetches nothing (10_state R37): the host hands it the word. The word becomes the host's next action, at a
command port that can accept it (20_memory R71; logs 2 and 16). -/
def State.withFetchWord (s : State) (nbits w : Nat) : State :=
  (s.setPort true none).setHost (.command (BitVec.ofNat 32 (w % 2 ^ nbits)) :: s.host)

end Sys2Proof.Machine
end

