-- ==== Sys2Proof/Machine/Pseudo.lean ====
section
/-! DEFINITION. The assembler's pseudo-instructions and their expansions, and a sequence of commands
(spec/30_encoding.md R114, R115). -/

namespace Sys2Proof.Machine

/-- The five pseudo-instructions (R114). -/
inductive Pseudo where
  | crcBytes (bs : List Byte)
  | rxFrame (bs : List Byte)
  | txFrame (bs : List Byte)
  | txCmd (addr fc : Byte)
  | config (addr fc : Byte) (count start : Half)
deriving DecidableEq, Repr

/-- The expansions of R114. -/
def Pseudo.expand : Pseudo → List Instr
  | .crcBytes bs => .crcInit :: bs.map .crcByte
  | .rxFrame bs => .rxClear :: bs.map .rxByte
  | .txFrame bs => .txClear :: (bs.map .txByte ++ [.txSeal])
  | .txCmd addr fc => [.txClear, .txByte addr, .txByte fc, .txSeal]
  | .config addr fc count start => [.setAddr addr, .setFunc fc, .setCount count, .setStart start]

/-- Commands run one after another (20_memory R73). -/
def runInstrs : List Instr → State → Host.Outcome State Fault Refusal
  | [], s => .next s
  | i :: is, s =>
    match exec i s with
    | .next t => runInstrs is t
    | .fault r => .fault r
    | .refused r => .refused r

end Sys2Proof.Machine
end

