-- ==== Sys2Proof/Machine/Assembler.lean ====
section
/-! DEFINITION. The assembler's source lines: one command or pseudo-instruction a line, immediates in decimal or 0x
hexadecimal, mnemonics in either case, `;` starting a comment (spec/30_encoding.md R113, R114; log 12). -/

namespace Sys2Proof.Machine

/-- Why a line does not assemble. -/
inductive AsmError where
  /-- no command and no pseudo-instruction of that name (R113) -/
  | unknownMnemonic
  /-- more or fewer operands than the command has (R113) -/
  | operandCount
  /-- an operand that is neither decimal nor 0x hexadecimal (R113) -/
  | badNumber
  /-- an immediate out of its field's range (R113) -/
  | outOfRange
deriving DecidableEq, Repr

/-- What assembling answers. -/
inductive Assembled where
  | commands (is : List Instr)
  | error (e : AsmError)
deriving DecidableEq, Repr

/-- One command from its opcode and its operands (R113): the range check of WellFormed, then the command. -/
def assembleCommand (o : Opcode) (ops : List Nat) : Assembled :=
  match o.use, ops with
  | .unused, [] => .commands [o.instr 0#8 0#16]
  | .byteA, [n] =>
    if OperandUse.byteA.admits (some n) then .commands [o.instr (BitVec.ofNat 8 n) 0#16] else .error .outOfRange
  | .halfD, [n] =>
    if OperandUse.halfD.admits (some n) then .commands [o.instr 0#8 (BitVec.ofNat 16 n)] else .error .outOfRange
  | _, _ => .error .operandCount

/-- All operands in the range of a byte (R114: "each 0 to 255"). -/
def allBytes (ops : List Nat) : Bool := ops.all fun n => OperandUse.byteA.admits (some n)

/-- The operands as bytes. -/
def bytesOf (ops : List Nat) : List Byte := ops.map (BitVec.ofNat 8)

/-- The names of the pseudo-instructions (R114). -/
inductive PseudoName where
  | crcBytes
  | rxFrame
  | txFrame
  | txCmd
  | config
deriving DecidableEq, Repr

/-- A pseudo-instruction from its name and operands (R114): the byte lists are not empty (b0 to bk), and an operand has
the range of the field it fills in the expansion (R113; log 12). -/
def assemblePseudo (p : PseudoName) (ops : List Nat) : Assembled :=
  match p, ops with
  | .txCmd, [a, f] => if allBytes [a, f] then .commands (Pseudo.expand (.txCmd (BitVec.ofNat 8 a) (BitVec.ofNat 8 f)))
      else .error .outOfRange
  | .config, [a, f, c, t] =>
    if allBytes [a, f] && OperandUse.halfD.admits (some c) && OperandUse.halfD.admits (some t) then
      .commands (Pseudo.expand
        (.config (BitVec.ofNat 8 a) (BitVec.ofNat 8 f) (BitVec.ofNat 16 c) (BitVec.ofNat 16 t)))
    else .error .outOfRange
  | .crcBytes, b :: bs => if allBytes (b :: bs) then .commands (Pseudo.expand (.crcBytes (bytesOf (b :: bs))))
      else .error .outOfRange
  | .rxFrame, b :: bs => if allBytes (b :: bs) then .commands (Pseudo.expand (.rxFrame (bytesOf (b :: bs))))
      else .error .outOfRange
  | .txFrame, b :: bs => if allBytes (b :: bs) then .commands (Pseudo.expand (.txFrame (bytesOf (b :: bs))))
      else .error .outOfRange
  | _, _ => .error .operandCount

/-- The value of a hexadecimal digit in either case. -/
def hexDigit (c : Char) : Option Nat :=
  if '0' ≤ c ∧ c ≤ '9' then some (c.toNat - 48)
  else if 'A' ≤ c.toUpper ∧ c.toUpper ≤ 'F' then some (c.toUpper.toNat - 55)
  else none

/-- The value of a decimal digit. -/
def decDigit (c : Char) : Option Nat := if '0' ≤ c ∧ c ≤ '9' then some (c.toNat - 48) else none

/-- Digits read in a base, most significant first. -/
def digitsValue (base : Nat) (digit : Char → Option Nat) (acc : Nat) : List Char → Option Nat
  | [] => some acc
  | c :: cs =>
    match digit c with
    | some d => digitsValue base digit (acc * base + d) cs
    | none => none

/-- An immediate, decimal or 0x hexadecimal (R113). -/
def parseNumber (cs : List Char) : Option Nat :=
  match cs with
  | [] => none
  | '0' :: 'x' :: d :: ds => digitsValue 16 hexDigit 0 (d :: ds)
  | d :: ds => digitsValue 10 decDigit 0 (d :: ds)

/-- A blank of a source line (log 12). -/
def isBlank (c : Char) : Bool := c == ' ' || c == '\t' || c == '\r'

/-- The text without the blanks at either end. -/
def trimBlanks (cs : List Char) : List Char := ((cs.dropWhile isBlank).reverse.dropWhile isBlank).reverse

/-- The pieces of a text between commas. -/
def splitCommas (acc : List Char) : List Char → List (List Char)
  | [] => [acc.reverse]
  | c :: cs => if c == ',' then acc.reverse :: splitCommas [] cs else splitCommas (c :: acc) cs

/-- The operands of a line, separated by commas (R114), none when the text is blank. -/
def parseOperands (cs : List Char) : Option (List Nat) :=
  if (trimBlanks cs).isEmpty then some [] else (splitCommas [] cs).mapM fun piece => parseNumber (trimBlanks piece)

/-- The text of a line before its comment (R113). -/
def beforeComment (cs : List Char) : List Char := cs.takeWhile fun c => c != ';'

/-- The pseudo-instruction of a name in capitals (R114). -/
def pseudoOf (name : String) : Option PseudoName :=
  if name = "CRC_BYTES" then some .crcBytes
  else if name = "RX_FRAME" then some .rxFrame
  else if name = "TX_FRAME" then some .txFrame
  else if name = "TX_CMD" then some .txCmd
  else if name = "CONFIG" then some .config
  else none

/-- The command of a name in capitals (R102, R113). -/
def opcodeOf (name : String) : Option Opcode := Opcode.all.find? fun o => o.mnemonic == name

/-- A command or pseudo-instruction by its name in capitals. R113 makes the mnemonics of R102 case-insensitive; that the
names of R114 are looked up in capitals too, and so accepted in either case, is the model's choice (log 12). -/
def assembleNamed (name : String) (ops : List Nat) : Assembled :=
  match opcodeOf name with
  | some o => assembleCommand o ops
  | none =>
    match pseudoOf name with
    | some p => assemblePseudo p ops
    | none => .error .unknownMnemonic

/-- One source line (R113). A line with nothing before its comment has no command, and the name is read in either letter
case, a mnemonic by R113 and a pseudo-instruction's name by the model's choice (log 12). -/
def assembleLine (line : List Char) : Assembled :=
  match trimBlanks (beforeComment line) with
  | [] => .commands []
  | c :: cs =>
    match parseOperands ((c :: cs).dropWhile fun x => !isBlank x) with
    | some ops => assembleNamed (String.ofList (((c :: cs).takeWhile fun x => !isBlank x).map Char.toUpper)) ops
    | none => .error .badNumber

/-- The words of a command list (R113, R114). -/
def assembledWords (is : List Instr) : List Word := is.map encode

end Sys2Proof.Machine
end

