-- ==== Sys2Proof/Safety.lean ====
section
/-! DEFINITION. What counts as a safe state and a safe run, in the terms the statements use. -/

namespace Sys2Proof.Machine

/-- The buffers respect their capacities (10_state R31, R38, R39), and a recorded receive overflow means a full buffer
(60_exceptions R302, cause 2). -/
abbrev State.buffersFit (s : State) : Prop :=
  s.rx.length ≤ s.caps.rx ∧ s.tx.length ≤ s.caps.tx ∧ (s.rxOvf = true → s.rx.length = s.caps.rx)

/-- No measurement, no register value: VALID = 0 implies REG[i] = 0 for every i (10_state R33). -/
abbrev Result.sentinel (r : Result) : Prop := r.valid = false → r.reg = Vector.replicate 10 0#16

/-- The recorded outcome hangs together: nothing is recorded while DONE = 0 (10_state R40), ERR_KIND is the class of
CAUSE (43_rx_validation R211, R214), CAUSE is that of the first failed check or TIMEOUT with none (R211, R214), and
VALID is set only by a VALIDATE_REGS that found no failure (R212). -/
abbrev Result.coherent (r : Result) : Prop :=
  (r.done = false → r = Result.cleared) ∧ r.errKind = r.cause.kind ∧
  (r.cause = r.checks.cause ∨ (r.cause = .timeout ∧ r.checks = Checks.clear)) ∧
  (r.valid = true → r.done = true ∧ r.cause = .none ∧ r.mode = .regs)

/-- A measurement is the one of the frame in rx (90_conflicts C7): while VALID = 1 the buffer holds a frame with a good
trailer whose ten first payload words are the registers. -/
abbrev State.measured (s : State) : Prop :=
  s.result.valid = true →
    s.rxOvf = false ∧ 25 ≤ s.rx.length ∧ crc16 (bodyOf s.rx) = trailerOf s.rx ∧ s.result.reg = payloadRegs s.rx

/-- A command is in progress only while cmd_ready = 0 (20_memory R72), and for fewer edges than CMD_LATENCY_MAX. -/
abbrev State.portFits (s : State) : Prop :=
  match s.inFlight with
  | none => True
  | some f => s.cmdReady = false ∧ f.waited < Config.cmdLatencyMax

/-- The invariant of the block: every state a run reaches from reset has it, by steps or by clock edges. -/
structure State.Inv (s : State) : Prop where
  caps : Config.legalCaps s.caps
  buffers : s.buffersFit
  sentinel : s.result.sentinel
  coherent : s.result.coherent
  measured : s.measured
  port : s.portFits

/-- The states a run of n steps reaches. -/
def reaches : Nat → State → State → Prop
  | 0, s, t => t = s
  | n + 1, s, t => ∃ u, step s = .next u ∧ reaches n u t

/-- A safe run: n steps from s, none of which stops with a fault or a refusal. -/
def SafeRun (n : Nat) (s : State) : Prop := ∃ t, reaches n s t

/-- Two states agree on everything but what the read port last drove (the outputs of reads, which no command sees). -/
abbrev State.sameBut (s t : State) : Prop := t = s.setRead t.rdData t.draws

end Sys2Proof.Machine
end

