-- ==== Sys2Proof/Certificates/Slice0/Obligations.lean ====
section
/-! DEFINITION. The statements about the model, from the numbered rules of spec/. -/

namespace Sys2Proof.Spec

open Sys2Proof.Machine

/-- The table of 10_state R46, field by field. -/
def resetValues (t : State) : Prop :=
  t.crc = 0xFFFF#16 ∧ t.expAddr = 0xF8#8 ∧ t.expFunc = 0x04#8 ∧ t.expCount = 10#16 ∧ t.start = 0x0000#16 ∧
  t.rx = [] ∧ t.rxOvf = false ∧ t.tx = [] ∧ t.txOvf = false ∧ t.illegal = false ∧
  t.result.valid = false ∧ t.result.done = false ∧ t.result.errKind.code = 0#2 ∧ t.result.cause.code = 0#4 ∧
  t.result.excCode = 0#8 ∧ t.result.mode.code = 0#1 ∧ t.result.checks.bits = 0#9 ∧
  t.result.calcCrc = 0#16 ∧ t.result.recvCrc = 0#16 ∧ ∀ i : Fin 10, t.result.reg[i] = 0#16

/-- The two states hold the same tuple of 10_state R31, and the same constants RX_CAP and TX_CAP. -/
def sameArch (s t : State) : Prop :=
  s.crc = t.crc ∧ s.expAddr = t.expAddr ∧ s.expFunc = t.expFunc ∧ s.expCount = t.expCount ∧ s.start = t.start ∧
  s.rx = t.rx ∧ s.rxOvf = t.rxOvf ∧ s.tx = t.tx ∧ s.txOvf = t.txOvf ∧ s.illegal = t.illegal ∧
  s.result = t.result ∧ s.caps = t.caps

/-- The fields a command could write: those of R31 with the result group as one (R47), and the ports and constants,
which no command writes. -/
inductive Field where
  | crc | expAddr | expFunc | expCount | start | rx | rxOvf | tx | txOvf | illegal | result
  | caps | cmdReady | inFlight | host | rdData | draws

/-- The field is the same in both states. -/
def Field.same (f : Field) (s t : State) : Prop :=
  match f with
  | .crc => t.crc = s.crc
  | .expAddr => t.expAddr = s.expAddr
  | .expFunc => t.expFunc = s.expFunc
  | .expCount => t.expCount = s.expCount
  | .start => t.start = s.start
  | .rx => t.rx = s.rx
  | .rxOvf => t.rxOvf = s.rxOvf
  | .tx => t.tx = s.tx
  | .txOvf => t.txOvf = s.txOvf
  | .illegal => t.illegal = s.illegal
  | .result => t.result = s.result
  | .caps => t.caps = s.caps
  | .cmdReady => t.cmdReady = s.cmdReady
  | .inFlight => t.inFlight = s.inFlight
  | .host => t.host = s.host
  | .rdData => t.rdData = s.rdData
  | .draws => t.draws = s.draws

/-- The rows of 10_state R47. -/
def writeSet : Instr → List Field
  | .nop => []
  | .clrIllegal => [.illegal]
  | .crcInit | .crcByte _ => [.crc]
  | .setAddr _ => [.expAddr]
  | .setFunc _ => [.expFunc]
  | .setCount _ => [.expCount]
  | .setStart _ => [.start]
  | .txClear | .txBuildRead | .txByte _ | .txSeal => [.tx, .txOvf]
  | .rxClear | .rxByte _ => [.rx, .rxOvf, .result]
  | .validateRegs | .validateAck _ | .timeout => [.result]

/-- The addresses at which a command that writes the result group can change a word: STATUS, CHECKS, VCRC, the
registers and the measurement words (20_memory R75). -/
def resultWords (n : Nat) : Prop := n = 0x000 ∨ n = 0x001 ∨ n = 0x003 ∨ (0x010 ≤ n ∧ n < 0x03C)

/-- The addresses at which a command can change the word read (10_state R47 through the map of 20_memory R75). TX_BYTE,
TX_SEAL and RX_BYTE store at the end of the buffer they append to, one or two bytes. -/
def touches (i : Instr) (s : State) (n : Nat) : Prop :=
  match i with
  | .nop => False
  | .clrIllegal => n = 0x000
  | .crcInit | .crcByte _ => n = 0x002
  | .setAddr _ | .setFunc _ => n = 0x004
  | .setCount _ => n = 0x005
  | .setStart _ => n = 0x006
  | .txClear | .txBuildRead => n = 0x000 ∨ n = 0x008 ∨ (0x200 ≤ n ∧ n < 0x300)
  | .txByte _ => n = 0x000 ∨ n = 0x008 ∨ n = 0x200 + s.tx.length
  | .txSeal => n = 0x000 ∨ n = 0x008 ∨ n = 0x200 + s.tx.length ∨ n = 0x201 + s.tx.length
  | .rxClear => resultWords n ∨ n = 0x007 ∨ (0x100 ≤ n ∧ n < 0x200)
  | .rxByte _ => resultWords n ∨ n = 0x007 ∨ n = 0x100 + s.rx.length
  | .validateRegs | .validateAck _ | .timeout => resultWords n

/-- devexc of 43_rx_validation R205. -/
def deviceException (s : State) : Prop :=
  s.expFunc.getLsbD 7 = false ∧ s.rx[1]? = some (s.expFunc ||| 0x80#8)

/-- The nine bits of CHECKS after a validation in mode m with expected acknowledgment length len: each rule R203 to R210
of 43_rx_validation in its own words. -/
def checksMean (m : ValidateMode) (len : Nat) (s : State) (k : Checks) : Prop :=
  k.ovf = s.rxOvf ∧ (k.short = true ↔ s.rx.length < 4) ∧
  (s.rxOvf = true ∨ s.rx.length < 4 →
    k.addr = false ∧ k.devexc = false ∧ k.func = false ∧ k.bcount = false ∧ k.crc = false ∧ k.len = false ∧
    k.regs = false) ∧
  (s.rxOvf = false → 4 ≤ s.rx.length →
    (k.addr = true ↔ s.rx[0]? ≠ some s.expAddr) ∧
    (k.devexc = true ↔ deviceException s) ∧
    (k.func = true ↔ ¬ deviceException s ∧ s.rx[1]? ≠ some s.expFunc) ∧
    (k.bcount = true ↔ m = .regs ∧ ¬ deviceException s ∧
      (s.rx.length < 5 ∨ (s.rx[2]?).map BitVec.toNat ≠ some (2 * s.expCount.toNat))) ∧
    (k.crc = true ↔ s.rx.drop (s.rx.length - 2) ≠ trailer (s.rx.take (s.rx.length - 2))) ∧
    (deviceException s → (k.len = true ↔ s.rx.length ≠ 5)) ∧
    (¬ deviceException s → m = .regs → (k.len = true ↔ s.rx.length ≠ 5 + 2 * s.expCount.toNat)) ∧
    (¬ deviceException s → m = .ack → (k.len = true ↔ s.rx.length ≠ len)) ∧
    (k.regs = true ↔ m = .regs ∧ ¬ deviceException s ∧ s.expCount.toNat < 10))

/-- EXC_CODE after a validation (43_rx_validation R203, R205). -/
def excMean (s : State) (e : Byte) : Prop :=
  (s.rxOvf = false ∧ deviceException s ∧ 5 ≤ s.rx.length → s.rx[2]? = some e) ∧
  (¬ (s.rxOvf = false ∧ deviceException s ∧ 5 ≤ s.rx.length) → e = 0#8)

/-- CALC_CRC and RECV_CRC after a validation (10_state R42). -/
def vcrcMean (s : State) (computed recv : Half) : Prop :=
  (s.rxOvf = false → 4 ≤ s.rx.length →
    computed = crc16 (s.rx.take (s.rx.length - 2)) ∧
    s.rx[s.rx.length - 1]? = some (recv.extractLsb' 8 8) ∧ s.rx[s.rx.length - 2]? = some (recv.extractLsb' 0 8)) ∧
  (s.rxOvf = true ∨ s.rx.length < 4 → computed = 0#16 ∧ recv = 0#16)

/-- The table of 43_rx_validation R211 in its order: the check, its CAUSE and its ERR_KIND. -/
def causeOrder (k : Checks) : List (Bool × Nat × Nat) :=
  [(k.ovf, 2, 3), (k.short, 3, 3), (k.addr, 4, 2), (k.devexc, 5, 2), (k.func, 6, 2), (k.bcount, 7, 2), (k.crc, 8, 2),
   (k.len, 9, 3), (k.regs, 10, 3)]

/-- CAUSE and ERR_KIND are those of the first failed check, 0 and 0 if none failed. -/
def causeMeans (r : Result) : Prop :=
  (r.cause.code.toNat, r.errKind.code.toNat) =
    match (causeOrder r.checks).find? fun x => x.1 with
    | some (_, c, e) => (c, e)
    | none => (0, 0)

/-- A frame is its bytes followed by their trailer (40_crc R143). -/
def sealed (bs : List Byte) : List Byte := bs ++ trailer bs

/-- The normal response of 30_encoding R104 to a 10-register read. -/
def responseFrame (addr func : Byte) (regs : Vector Half 10) : List Byte :=
  sealed (addr :: func :: 20#8 :: regs.toList.flatMap fun v => [v.extractLsb' 8 8, v.extractLsb' 0 8])

/-- The frame with bit b of byte i flipped. -/
def flipBit (frame : List Byte) (i b : Nat) : List Byte := frame.modify i fun x => x ^^^ (1#8 <<< b)

/-- The words accepted at the edges of a trace, in order (20_memory R71). -/
def acceptedWords : List EdgeInput → State → List Word
  | [], _ => []
  | e :: es, s =>
    match clockEdge e s with
    | .next t => (if accepts e s then [e.pins.cmdData] else []) ++ acceptedWords es t
    | .fault _ | .refused _ => []

/-- The word of the command in progress, if there is one. -/
def pendingWords (s : State) : List Word :=
  match s.inFlight with
  | none => []
  | some f => [f.word]

/-- The mantissa formulas of 44_decoder R244 to R250, over the register values. -/
def mantissaFormula (reg : Vector Half 10) : List Nat :=
  [reg[0].toNat, reg[1].toNat + reg[2].toNat * 65536, reg[3].toNat + reg[4].toNat * 65536,
   reg[5].toNat + reg[6].toNat * 65536, reg[7].toNat, reg[8].toNat, reg[9].toNat]

/-- The divisors of 44_decoder R244 to R250. -/
def divisorTable : List Nat := [10, 1000, 10, 1, 10, 100, 1]

/-- The word at an address of the read space as a number. -/
def readNat (s : State) (n : Nat) : Nat := (readWord s (BitVec.ofNat 12 n)).toNat

/-- A row of 30_encoding R102: OP, whether A and D must be zero, and the command of the fields. -/
structure OpRow where
  op : Byte
  zeroA : Bool
  zeroD : Bool
  command : Byte → Half → Instr

/-- The opcode map of 30_encoding R102. -/
def opMap : List OpRow :=
  [⟨0x00#8, true, true, fun _ _ => .nop⟩, ⟨0x01#8, true, true, fun _ _ => .clrIllegal⟩,
   ⟨0x08#8, true, true, fun _ _ => .crcInit⟩, ⟨0x09#8, false, true, fun a _ => .crcByte a⟩,
   ⟨0x10#8, false, true, fun a _ => .setAddr a⟩, ⟨0x11#8, false, true, fun a _ => .setFunc a⟩,
   ⟨0x12#8, true, false, fun _ d => .setCount d⟩, ⟨0x13#8, true, false, fun _ d => .setStart d⟩,
   ⟨0x20#8, true, true, fun _ _ => .txClear⟩, ⟨0x21#8, false, true, fun a _ => .txByte a⟩,
   ⟨0x22#8, true, true, fun _ _ => .txSeal⟩, ⟨0x23#8, true, true, fun _ _ => .txBuildRead⟩,
   ⟨0x30#8, true, true, fun _ _ => .rxClear⟩, ⟨0x31#8, false, true, fun a _ => .rxByte a⟩,
   ⟨0x32#8, true, true, fun _ _ => .validateRegs⟩, ⟨0x33#8, false, true, fun a _ => .validateAck a⟩,
   ⟨0x34#8, true, true, fun _ _ => .timeout⟩]

end Sys2Proof.Spec

open Sys2Proof Sys2Proof.Machine Sys2Proof.Spec

/-! ## Reset -/

/-- 10_state R46, 70_reset_and_hazards R341. -/
def Obligations.ResetStateHasTableValues : Prop := resetValues State.reset

/-- 70_reset_and_hazards R340: a reset edge from any state, and the first edge with rst = 0 after it. -/
def Obligations.ResetEdgeAbandonsCommandInProgress : Prop :=
  ∀ (e f : EdgeInput) (s : State), e.pins.rst = true → f.pins.rst = false →
    ∃ t u, clockEdge e s = .next t ∧ resetValues t ∧ t.cmdReady = false ∧ t.inFlight = none ∧ t.caps = s.caps ∧
      clockEdge f t = .next u ∧ resetValues u ∧ u.cmdReady = true ∧ u.inFlight = none ∧ u.caps = s.caps

/-- The host action `reset` (log 15) leaves the values of 10_state R46 in any state, the block ready, and the later
actions of the host as they were. -/
def Obligations.ResetActionGivesTableValues : Prop :=
  ∀ (s : State) (rest : List HostAction), s.host = .reset :: rest →
    ∃ t, step s = .next t ∧ resetValues t ∧ t.cmdReady = true ∧ t.inFlight = none ∧ t.caps = s.caps ∧ t.host = rest

/-! ## Encoding -/

/-- 30_encoding R100 to R102, R113: decoding an encoded command gives it back. -/
def Obligations.DecodeEncodeRoundTrip : Prop :=
  ∀ i : Instr, i.wf = true → decode (encode i) = .command i

/-- 30_encoding R111: a word that decodes to a command is that command's only word. -/
def Obligations.EncodeDecodeRoundTrip : Prop :=
  ∀ (w : Word) (i : Instr), decode w = .command i → encode i = w

/-- 30_encoding R111: the rows of the opcode table that accept a word are the one row of its command, or none. -/
def Obligations.EveryWordIsOneRowOrIllegal : Prop :=
  ∀ w : Word,
    (∀ i, decode w = .command i →
      (opcodeTable.filter fun r => r.accepts w).map TableRow.mnemonic = [i.opcode.mnemonic]) ∧
    (∀ e, decode w = .illegal e → (opcodeTable.filter fun r => r.accepts w) = [])

/-- Words written out from 30_encoding R102, R113 and 95_test_vectors section 4. -/
def Obligations.SampleWordsDecode : Prop :=
  decode 0x00000000#32 = .command .nop ∧ decode 0x09310000#32 = .command (.crcByte 0x31#8) ∧
  decode 0x1200000A#32 = .command (.setCount 10#16) ∧ decode 0x13001234#32 = .command (.setStart 0x1234#16) ∧
  decode 0x23000000#32 = .command .txBuildRead ∧ decode 0x31EB0000#32 = .command (.rxByte 0xEB#8) ∧
  decode 0x33040000#32 = .command (.validateAck 4#8) ∧ decode 0x34000000#32 = .command .timeout ∧
  decode 0x35000000#32 = .illegal .unassignedOp ∧ decode 0x00010000#32 = .illegal .nonzeroA ∧
  decode 0x10010001#32 = .illegal .nonzeroD

/-- 30_encoding R113: immediates 0 to 255 and 0 to 65535, an error out of range, and the word {OP, A, D}. -/
def Obligations.AssemblerChecksImmediateRange : Prop :=
  ∀ (o : Opcode) (n : Nat),
    (o.use = .byteA → n ≤ 255 → ∃ i, assembleCommand o [n] = .commands [i] ∧
      encode i = (o.code ++ BitVec.ofNat 8 n) ++ 0#16) ∧
    (o.use = .halfD → n ≤ 65535 → ∃ i, assembleCommand o [n] = .commands [i] ∧
      encode i = (o.code ++ 0#8) ++ BitVec.ofNat 16 n) ∧
    (o.use = .unused → ∃ i, assembleCommand o [] = .commands [i] ∧ encode i = (o.code ++ 0#8) ++ 0#16) ∧
    (o.use = .byteA → 255 < n → assembleCommand o [n] = .error .outOfRange) ∧
    (o.use = .halfD → 65535 < n → assembleCommand o [n] = .error .outOfRange) ∧
    (o.use = .unused → assembleCommand o [n] = .error .operandCount)

/-! ## The step and the command port -/

/-- 20_memory R71, R72: a ready block runs the command its next word decodes to, and the host's later actions stay. -/
def Obligations.StepRunsDecodedCommand : Prop :=
  ∀ (s : State) (w : Word) (i : Instr) (rest : List HostAction),
    s.cmdReady = true → s.host = .command w :: rest → decode w = .command i →
    step s = exec i { s with host := rest }

/-- 30_encoding R102, R110: what a ready block does with the word {OP, A, D}: the row's command when OP has a row and
the fields the row leaves unused are zero, and otherwise ILLEGAL <- 1 and nothing else. -/
def Obligations.CommandWordsFollowOpcodeMap : Prop :=
  ∀ (s : State) (op a : Byte) (d : Half) (rest : List HostAction),
    s.cmdReady = true → s.host = .command ((op ++ a) ++ d) :: rest →
    (∀ row ∈ opMap, row.op = op → (row.zeroA = true → a = 0#8) → (row.zeroD = true → d = 0#16) →
      step s = exec (row.command a d) { s with host := rest }) ∧
    (∀ row ∈ opMap, row.op = op → (row.zeroA = true ∧ a ≠ 0#8) ∨ (row.zeroD = true ∧ d ≠ 0#16) →
      step s = .next { s with host := rest, illegal := true }) ∧
    ((∀ row ∈ opMap, row.op ≠ op) → step s = .next { s with host := rest, illegal := true })

/-- Log 4: while the block is not ready, the next step brings it to readiness, completing the command in progress if
there is one, and the host's actions wait. -/
def Obligations.UnreadyBlockCompletesFirst : Prop :=
  ∀ s : State, s.cmdReady = false → (s.host = [] ∨ ∃ w rest, s.host = .command w :: rest) →
    (∀ f, s.inFlight = some f → step s = runWord f.word { s with cmdReady := true, inFlight := none }) ∧
    (s.inFlight = none → step s = .next { s with cmdReady := true })

/-- 60_exceptions R316: idle when ready and no command is offered, and the state is held. -/
def Obligations.IdleBlockHoldsState : Prop :=
  ∀ s : State, s.cmdReady = true → s.host = [] → step s = .next s

/-- 93 section D: every command is defined on every state. -/
def Obligations.EveryCommandCompletes : Prop :=
  ∀ (i : Instr) (s : State), ∃ t, exec i s = .next t

/-- 60_exceptions R300, R306: nothing traps, so a run of any length never stops. -/
def Obligations.EveryRunIsSafe : Prop :=
  ∀ (n : Nat) (s : State), SafeRun n s

/-- 20_memory section 1 (R71 and the start of R72): a command is accepted exactly at an edge with rst = 0, cmd_valid = 1
and cmd_ready = 1, and it is the word on cmd_data at that edge. That cmd_ready goes to 0 there and that no stored field
changes yet, so that no command completes at its accepting edge, rests on the model's choice of log 8. -/
def Obligations.AcceptanceNeedsHandshake : Prop :=
  ∀ (e : EdgeInput) (s : State), s.portFits → ∃ t, clockEdge e s = .next t ∧
    (e.pins.rst = false → e.pins.cmdValid = true → s.cmdReady = true →
      t.inFlight = some { word := e.pins.cmdData, waited := 0 } ∧ t.cmdReady = false ∧ sameArch s t) ∧
    (e.pins.rst = true ∨ e.pins.cmdValid = false ∨ s.cmdReady = false →
      ∀ f, t.inFlight = some f → ∃ g, s.inFlight = some g ∧ g.word = f.word)

/-- 20_memory section 1 (R72): an accepted command completes within CMD_LATENCY_MAX edges, cmd_ready stays 0 and no write
shows until then, and all its writes are there at completion. That it completes at the earliest at the edge after its
acceptance and at the latest CMD_LATENCY_MAX edges after it, the range of k, rests on the model's choice of log 8. -/
def Obligations.AcceptedCommandCompletesAtomically : Prop :=
  ∀ (e : EdgeInput) (es : List EdgeInput) (s : State), accepts e s = true →
    (∀ x ∈ es, x.pins.rst = false) → es.length = Config.cmdLatencyMax →
    ∃ k, 1 ≤ k ∧ k ≤ Config.cmdLatencyMax ∧
      (∀ j, j < k → ∃ v, runEdges (e :: es.take j) s = .next v ∧ v.cmdReady = false ∧ sameArch s v) ∧
      ∃ t u, runEdges (e :: es.take k) s = .next t ∧ runWord e.pins.cmdData s = .next u ∧
        t.cmdReady = true ∧ t.inFlight = none ∧ sameArch u t

/-- 20_memory R72, R73: over any clock trace without reset, the state is the one that the completed commands, run
atomically one after another in acceptance order, leave; at most the last accepted one is still in progress. -/
def Obligations.ClockTraceRefinesAtomicCommands : Prop :=
  ∀ (es : List EdgeInput) (s t : State), (∀ x ∈ es, x.pins.rst = false) → s.portFits → runEdges es s = .next t →
    ∃ completed u, pendingWords s ++ acceptedWords es s = completed ++ pendingWords t ∧
      runWords completed { s with cmdReady := true, inFlight := none } = .next u ∧ sameArch u t

/-! ## The read port -/

/-- 10_state section 5 (the STATUS table of R40) and 44_decoder section 2 (R251, bit 20): every field of the STATUS word. -/
def Obligations.StatusWordFields : Prop :=
  ∀ s : State,
    let w := readWord s 0x000#12
    w.getLsbD 0 = s.result.valid ∧ w.getLsbD 1 = s.result.done ∧ w.extractLsb' 2 2 = s.result.errKind.code ∧
    w.extractLsb' 4 4 = s.result.cause.code ∧ w.extractLsb' 8 8 = s.result.excCode ∧
    w.getLsbD 16 = (s.result.mode == .ack) ∧ w.getLsbD 17 = s.rxOvf ∧ w.getLsbD 18 = s.txOvf ∧
    w.getLsbD 19 = s.illegal ∧ w.getLsbD 20 = (s.result.valid && s.result.reg[9] != 0#16) ∧
    w.extractLsb' 21 11 = 0#11

/-- 20_memory R75: the words 0x001 to 0x009. -/
def Obligations.ControlWordsFollowMap : Prop :=
  ∀ s : State, s.buffersFit → Config.legalCaps s.caps →
    (readWord s 0x001#12).getLsbD 0 = s.result.checks.ovf ∧ (readWord s 0x001#12).getLsbD 1 = s.result.checks.short ∧
    (readWord s 0x001#12).getLsbD 2 = s.result.checks.addr ∧ (readWord s 0x001#12).getLsbD 3 = s.result.checks.devexc ∧
    (readWord s 0x001#12).getLsbD 4 = s.result.checks.func ∧ (readWord s 0x001#12).getLsbD 5 = s.result.checks.bcount ∧
    (readWord s 0x001#12).getLsbD 6 = s.result.checks.crc ∧ (readWord s 0x001#12).getLsbD 7 = s.result.checks.len ∧
    (readWord s 0x001#12).getLsbD 8 = s.result.checks.regs ∧ (readWord s 0x001#12).extractLsb' 9 23 = 0#23 ∧
    readNat s 0x002 = s.crc.toNat ∧
    (readWord s 0x003#12).extractLsb' 0 16 = s.result.calcCrc ∧
    (readWord s 0x003#12).extractLsb' 16 16 = s.result.recvCrc ∧
    (readWord s 0x004#12).extractLsb' 0 8 = s.expAddr ∧ (readWord s 0x004#12).extractLsb' 8 8 = s.expFunc ∧
    (readWord s 0x004#12).extractLsb' 16 16 = 0#16 ∧
    readNat s 0x005 = s.expCount.toNat ∧ readNat s 0x006 = s.start.toNat ∧
    readNat s 0x007 = s.rx.length ∧ readNat s 0x008 = s.tx.length ∧
    readNat s 0x009 = s.caps.tx * 65536 + s.caps.rx

/-- 20_memory R75: the register, buffer and table windows. -/
def Obligations.WindowWordsFollowMap : Prop :=
  ∀ s : State,
    (∀ i : Fin 10, readNat s (0x010 + i.val) = s.result.reg[i].toNat) ∧
    (∀ i, i < 256 → readNat s (0x100 + i) = if h : i < s.rx.length then s.rx[i].toNat else 0) ∧
    (∀ i, i < 256 → readNat s (0x200 + i) = if h : i < s.tx.length then s.tx[i].toNat else 0) ∧
    (∀ i, i < 256 → readNat s (0x300 + i) = (crcTable (BitVec.ofNat 8 i)).toNat)

/-- 20_memory R76, with the reserved addresses and fields of R75: they read 0, and reading any address leaves STATUS as
it was. -/
def Obligations.ReservedReadsAreZero : Prop :=
  (∀ (s : State) (a : Addr),
    (0x00A ≤ a.toNat ∧ a.toNat ≤ 0x00F) ∨ (0x01A ≤ a.toNat ∧ a.toNat ≤ 0x01F) ∨
      (0x03C ≤ a.toNat ∧ a.toNat ≤ 0x0FF) ∨ 0x400 ≤ a.toNat →
    readWord s a = 0#32) ∧
  (∀ s : State,
    readNat s 0x000 < 2 ^ 21 ∧ readNat s 0x001 < 2 ^ 9 ∧ readNat s 0x002 < 2 ^ 16 ∧ readNat s 0x004 < 2 ^ 16 ∧
    readNat s 0x005 < 2 ^ 16 ∧ readNat s 0x006 < 2 ^ 16 ∧ readNat s 0x007 < 2 ^ 9 ∧ readNat s 0x008 < 2 ^ 9 ∧
    (∀ i, i < 10 → readNat s (0x010 + i) < 2 ^ 16) ∧
    (∀ i, i < 256 → readNat s (0x100 + i) < 2 ^ 8 ∧ readNat s (0x200 + i) < 2 ^ 8 ∧ readNat s (0x300 + i) < 2 ^ 16)) ∧
  (∀ (s : State) (a : Addr) (rest : List HostAction), s.cmdReady = true → s.host = .read a :: rest →
    ∃ t, step s = .next t ∧ readWord t 0x000#12 = readWord s 0x000#12)

/-- 20_memory R77: a read changes no state, and so every address reads the same after it; the port drives the word of
the state. -/
def Obligations.ReadsHaveNoSideEffect : Prop :=
  ∀ (s : State) (a : Addr) (rest : List HostAction), s.cmdReady = true → s.host = .read a :: rest →
    ∃ t, step s = .next t ∧ t = { s with host := rest, rdData := readWord s a } ∧
      ∀ b : Addr, readWord t b = readWord s b

/-- Log 3: a read while a command is in progress drives a free value, the next one drawn, and changes nothing else.
It holds for every value of the free function. -/
def Obligations.BusyReadDrawsFreeValue : Prop :=
  ∀ (s : State) (a : Addr) (rest : List HostAction), s.cmdReady = false → s.host = .read a :: rest →
    step s = .next { s with host := rest, rdData := Config.busyReadWord s.draws, draws := s.draws + 1 }

/-- 20_memory R74 and 60_exceptions R315: the words read are a function of the stored fields alone, and they show every
stored field. -/
def Obligations.ReadPortShowsExactlyTheState : Prop :=
  ∀ s t : State, s.buffersFit → t.buffersFit → Config.legalCaps s.caps → Config.legalCaps t.caps →
    ((∀ a : Addr, readWord s a = readWord t a) ↔ sameArch s t)

/-! ## Control and configuration -/

/-- 41_config R160 to R165. -/
def Obligations.ControlAndConfigCommands : Prop :=
  ∀ s : State,
    exec .nop s = .next s ∧ exec .clrIllegal s = .next { s with illegal := false } ∧
    (∀ a, exec (.setAddr a) s = .next { s with expAddr := a }) ∧
    (∀ f, exec (.setFunc f) s = .next { s with expFunc := f }) ∧
    (∀ n, exec (.setCount n) s = .next { s with expCount := n }) ∧
    (∀ a, exec (.setStart a) s = .next { s with start := a })

/-! ## The CRC engine -/

/-- 40_crc sections 1 and 2 (R141, R146, R147): the accumulator's new value after each command, and nothing else changes.
The third clause, crc16 of the bytes after CRC_INIT and a CRC_BYTE for each, is the spec's own derivation, under R147. -/
def Obligations.CrcCommandsUpdateAccumulator : Prop :=
  ∀ s : State,
    exec .crcInit s = .next { s with crc := 0xFFFF#16 } ∧
    (∀ b, exec (.crcByte b) s =
      .next { s with crc := crcTable (((s.crc ^^^ b.setWidth 16) &&& 0x00FF#16).setWidth 8) ^^^ (s.crc >>> 8) }) ∧
    ∀ bs : List Byte, runInstrs (.crcInit :: bs.map .crcByte) s = .next { s with crc := crc16 bs }

/-- 40_crc R142. -/
def Obligations.CrcOfSequence : Prop :=
  crc16 [] = 0xFFFF#16 ∧
  ∀ (bs : List Byte) (b : Byte),
    crc16 (bs ++ [b]) =
      crcTable (((crc16 bs ^^^ b.setWidth 16) &&& 0x00FF#16).setWidth 8) ^^^ (crc16 bs >>> 8)

/-- 10_state section 6 (R43, from general knowledge as the spec says): every entry of the ROM is the eight-bit reflected shift of its index. -/
def Obligations.CrcTableFollowsFormula : Prop :=
  ∀ i : Byte, crcTable i = crcBits 8 (i.setWidth 16)

/-- 40_crc section 1 (R144, the spec's own inference): the table update is the bit-serial update. -/
def Obligations.TableUpdateIsBitSerial : Prop :=
  ∀ (c : Half) (b : Byte), crcUpd c b = crcUpdSerial c b

/-- 40_crc section 1 (R145, the spec's own derivation). -/
def Obligations.ResidueOfSealedFrameIsZero : Prop :=
  ∀ bs : List Byte, crc16 (bs ++ trailer bs) = 0x0000#16

/-- 40_crc section 3 (R148, the spec's own derivation): one flipped bit always makes the trailer wrong, whether it is in the bytes or in the trailer. -/
def Obligations.SingleBitFlipBreaksTrailer : Prop :=
  ∀ (bs : List Byte) (i b : Nat), i < bs.length + 2 → b < 8 →
    let frame := flipBit (sealed bs) i b
    frame.drop bs.length ≠ trailer (frame.take bs.length)

/-! ## Transmit framing -/

/-- 42_tx_framing R181, R184, 30_encoding R103. -/
def Obligations.TxClearAndBuildRead : Prop :=
  ∀ s : State,
    exec .txClear s = .next { s with tx := [], txOvf := false } ∧
    exec .txBuildRead s = .next { s with
      tx := sealed [s.expAddr, s.expFunc, s.start.extractLsb' 8 8, s.start.extractLsb' 0 8,
        s.expCount.extractLsb' 8 8, s.expCount.extractLsb' 0 8]
      txOvf := false }

/-- 42_tx_framing R182. -/
def Obligations.TxByteAppendsOrOverflows : Prop :=
  ∀ (s : State) (b : Byte),
    (s.tx.length < s.caps.tx → exec (.txByte b) s = .next { s with tx := s.tx ++ [b] }) ∧
    (s.caps.tx ≤ s.tx.length → exec (.txByte b) s = .next { s with txOvf := true })

/-- 42_tx_framing R183. -/
def Obligations.TxSealAppendsTrailerOrOverflows : Prop :=
  ∀ s : State,
    (s.tx.length + 2 ≤ s.caps.tx → exec .txSeal s = .next { s with
      tx := s.tx ++ [(crc16 s.tx).extractLsb' 0 8, (crc16 s.tx).extractLsb' 8 8] }) ∧
    (s.caps.tx < s.tx.length + 2 → exec .txSeal s = .next { s with txOvf := true })

/-- 42_tx_framing (R185, the spec's own derivation): TX_BUILD_READ and the byte sequence leave the same state. -/
def Obligations.BuildReadEqualsByteSequence : Prop :=
  ∀ s : State, 8 ≤ s.caps.tx →
    ∃ t, exec .txBuildRead s = .next t ∧
      runInstrs [.txClear, .txByte s.expAddr, .txByte s.expFunc, .txByte (s.start.extractLsb' 8 8),
        .txByte (s.start.extractLsb' 0 8), .txByte (s.expCount.extractLsb' 8 8),
        .txByte (s.expCount.extractLsb' 0 8), .txSeal] s = .next t

/-- 30_encoding R114, 42_tx_framing R186: TX_FRAME leaves the sealed frame in tx when it fits. -/
def Obligations.TxFrameBuildsSealedFrame : Prop :=
  ∀ (bs : List Byte) (s : State), bs.length + 2 ≤ s.caps.tx →
    runInstrs (Pseudo.expand (.txFrame bs)) s = .next { s with tx := sealed bs, txOvf := false }

/-! ## Receive and validation -/

/-- 43_rx_validation R201 with the clear_result of R203. -/
def Obligations.RxClearStartsNewResponse : Prop :=
  ∀ s : State, ∃ r, exec .rxClear s = .next { s with rx := [], rxOvf := false, result := r } ∧
    r.valid = false ∧ r.done = false ∧ r.errKind = .none ∧ r.cause = .none ∧ r.excCode = 0#8 ∧ r.mode = .regs ∧
    r.checks.bits = 0#9 ∧ r.calcCrc = 0#16 ∧ r.recvCrc = 0#16 ∧ ∀ i : Fin 10, r.reg[i] = 0#16

/-- 43_rx_validation R202 with the clear_result of R203. -/
def Obligations.RxByteAppendsOrOverflows : Prop :=
  ∀ (s : State) (b : Byte), ∃ r,
    (s.rx.length < s.caps.rx → exec (.rxByte b) s = .next { s with rx := s.rx ++ [b], result := r }) ∧
    (s.caps.rx ≤ s.rx.length → exec (.rxByte b) s = .next { s with rxOvf := true, result := r }) ∧
    r.valid = false ∧ r.done = false ∧ r.errKind = .none ∧ r.cause = .none ∧ r.excCode = 0#8 ∧ r.mode = .regs ∧
    r.checks.bits = 0#9 ∧ r.calcCrc = 0#16 ∧ r.recvCrc = 0#16 ∧ ∀ i : Fin 10, r.reg[i] = 0#16

/-- 43_rx_validation R214. -/
def Obligations.TimeoutRecordsTimeoutError : Prop :=
  ∀ s : State, ∃ r, exec .timeout s = .next { s with result := r } ∧
    r.valid = false ∧ r.done = true ∧ r.errKind = .timeoutError ∧ r.cause = .timeout ∧ r.excCode = 0#8 ∧
    r.mode = .regs ∧ r.checks.bits = 0#9 ∧ r.calcCrc = 0#16 ∧ r.recvCrc = 0#16 ∧ ∀ i : Fin 10, r.reg[i] = 0#16

/-- 43_rx_validation R204 to R213; 10_state R42: what both validations record, and nothing else is written. -/
def Obligations.ValidationRecordsOutcome : Prop :=
  ∀ s : State,
    (∃ r, exec .validateRegs s = .next { s with result := r } ∧ r.done = true ∧ r.mode = .regs ∧
      checksMean .regs 0 s r.checks ∧ excMean s r.excCode ∧ vcrcMean s r.calcCrc r.recvCrc ∧ causeMeans r ∧
      (r.valid = true ↔ r.cause = .none) ∧
      (r.valid = true → ∀ i : Fin 10,
        s.rx[3 + 2 * i.val]? = some (r.reg[i].extractLsb' 8 8) ∧
        s.rx[4 + 2 * i.val]? = some (r.reg[i].extractLsb' 0 8)) ∧
      (r.valid = false → ∀ i : Fin 10, r.reg[i] = 0#16)) ∧
    (∀ len : Byte, ∃ r, exec (.validateAck len) s = .next { s with result := r } ∧ r.done = true ∧ r.mode = .ack ∧
      checksMean .ack len.toNat s r.checks ∧ excMean s r.excCode ∧ vcrcMean s r.calcCrc r.recvCrc ∧ causeMeans r ∧
      r.valid = false ∧ ∀ i : Fin 10, r.reg[i] = 0#16)

/-- 43_rx_validation R212, 30_encoding R104: VALIDATE_REGS accepts exactly the frames of a register read for the
configuration, with at least ten registers, and reports no error exactly then. -/
def Obligations.ValidateRegsAcceptsExactlyGoodFrames : Prop :=
  ∀ s : State, ∃ r, exec .validateRegs s = .next { s with result := r } ∧
    (r.valid = true ↔ s.rxOvf = false ∧ 10 ≤ s.expCount.toNat ∧ s.expCount.toNat ≤ 127 ∧
      ∃ payload : List Byte, payload.length = 2 * s.expCount.toNat ∧
        s.rx = sealed (s.expAddr :: s.expFunc :: BitVec.ofNat 8 (2 * s.expCount.toNat) :: payload)) ∧
    (r.valid = true ↔ r.errKind = .none)

/-- 43_rx_validation R213: VALIDATE_ACK succeeds exactly on a frame of the expected address, function code, length and
trailer, and never gives a measurement. -/
def Obligations.ValidateAckAcceptsExactlyGoodAcks : Prop :=
  ∀ (s : State) (len : Byte), ∃ r, exec (.validateAck len) s = .next { s with result := r } ∧
    r.valid = false ∧ (∀ i : Fin 10, r.reg[i] = 0#16) ∧
    (r.errKind = .none ↔ s.rxOvf = false ∧ s.rx.length = len.toNat ∧
      ∃ mid : List Byte, s.rx = sealed (s.expAddr :: s.expFunc :: mid))

/-- 43_rx_validation R205 with the frame of 30_encoding R106 (from general knowledge as the spec says): a device exception response is reported as such by both validations, with
its code. -/
def Obligations.DeviceExceptionIsReported : Prop :=
  ∀ (s t : State) (code : Byte), s.rxOvf = false → s.expFunc.getLsbD 7 = false →
    s.rx = sealed [s.expAddr, s.expFunc ||| 0x80#8, code] →
    (exec .validateRegs s = .next t ∨ ∃ len, exec (.validateAck len) s = .next t) →
    t.result.cause = .devexc ∧ t.result.errKind = .protocolError ∧ t.result.excCode = code ∧
    t.result.checks.bits = 0x008#9 ∧ t.result.valid = false

/-- 30_encoding R104, R109; 44_decoder R243 to R250: the response to a 10-register read, received and validated, gives
its registers and their quantities. -/
def Obligations.ResponseDecodesToItsRegisters : Prop :=
  ∀ (s : State) (regs : Vector Half 10), Config.legalCaps s.caps → s.expCount = 10#16 →
    ∃ t, runInstrs (Pseudo.expand (.rxFrame (responseFrame s.expAddr s.expFunc regs)) ++ [.validateRegs]) s = .next t ∧
      t.result.valid = true ∧ t.result.errKind = .none ∧ t.result.reg = regs ∧
      ∀ k : Fin 7, some (readNat t (0x020 + 4 * k.val)) = (mantissaFormula regs)[k.val]?

/-- 43_rx_validation section 4 (R216, the spec's own derivation): one flipped bit of a frame that passes is always rejected, with the cause of its
place. -/
def Obligations.CorruptedFrameIsRejected : Prop :=
  ∀ (s t : State) (i b : Nat), exec .validateRegs s = .next t → t.result.valid = true → i < s.rx.length → b < 8 →
    ∃ u, exec .validateRegs { s with rx := flipBit s.rx i b } = .next u ∧
      u.result.valid = false ∧ u.result.errKind = .protocolError ∧ u.result.checks.crc = true ∧
      u.result.cause =
        (if i = 0 then .addr
         else if i = 1 then (if b = 7 ∧ s.expFunc.getLsbD 7 = false then .devexc else .func)
         else if i = 2 then .bcount
         else .crc)

/-- 43_rx_validation section 4 (R215, the spec's own derivation). -/
def Obligations.ValidationIsIdempotent : Prop :=
  ∀ s t : State,
    (exec .validateRegs s = .next t → exec .validateRegs t = .next t) ∧
    (∀ len, exec (.validateAck len) s = .next t → exec (.validateAck len) t = .next t)

/-! ## The decoder -/

/-- 44_decoder R241, R244 to R250, R252: at the four addresses of every quantity, M by its formula, D, and M = Q * D + R
with R < D; and the units. -/
def Obligations.MeasurementWordsAreExact : Prop :=
  (∀ (s : State) (k : Fin 7),
    some (readNat s (0x020 + 4 * k.val)) = (mantissaFormula s.result.reg)[k.val]? ∧
    some (readNat s (0x023 + 4 * k.val)) = divisorTable[k.val]? ∧
    readNat s (0x020 + 4 * k.val) =
      readNat s (0x021 + 4 * k.val) * readNat s (0x023 + 4 * k.val) + readNat s (0x022 + 4 * k.val) ∧
    readNat s (0x022 + 4 * k.val) < readNat s (0x023 + 4 * k.val)) ∧
  Quantity.all.map Quantity.measureUnit = [.volt, .ampere, .watt, .wattHour, .hertz, .unitless, .unitless]

/-- 44_decoder R242. -/
def Obligations.CombinerIsLowPlusHighShifted : Prop :=
  ∀ lo hi : Half,
    comb lo hi = lo.setWidth 32 + (hi.setWidth 32 <<< 16) ∧ (comb lo hi).toNat = lo.toNat + hi.toNat * 2 ^ 16

/-- 44_decoder R253: with VALID = 0 every M, Q and R word reads 0 and the D words read their constants. The premise is
the invariant of 10_state R33. -/
def Obligations.SentinelWordsReadZero : Prop :=
  ∀ (s : State) (k : Fin 7), s.result.sentinel → s.result.valid = false →
    readNat s (0x020 + 4 * k.val) = 0 ∧ readNat s (0x021 + 4 * k.val) = 0 ∧ readNat s (0x022 + 4 * k.val) = 0 ∧
    some (readNat s (0x023 + 4 * k.val)) = divisorTable[k.val]?

/-- 44_decoder sections 1 and 3 (R254, the spec's own derivation): the value is the exact rational M / D, and R written with log10(D) digits is its fraction. -/
def Obligations.ValueIsExactDecimal : Prop :=
  ∀ (q : Quantity) (reg : Vector Half 10),
    q.value reg = ((q.quotient reg).toNat : Rat) + ((q.remainder reg).toNat : Rat) / ((q.divisor).toNat : Rat) ∧
    q.divisor.toNat = 10 ^ q.decimals ∧ (q.fraction reg).length = q.decimals ∧
    Nat.ofDigits 10 (q.fraction reg).reverse = (q.remainder reg).toNat

/-! ## Invariants -/

/-- The invariant of Safety holds at reset. -/
def Obligations.ResetMeetsInvariant : Prop := State.reset.Inv

/-- Every step keeps the invariant of Safety. -/
def Obligations.StepKeepsInvariant : Prop :=
  ∀ s t : State, s.Inv → step s = .next t → t.Inv

/-- Every clock edge keeps the invariant of Safety. -/
def Obligations.ClockEdgeKeepsInvariant : Prop :=
  ∀ (e : EdgeInput) (s t : State), s.Inv → clockEdge e s = .next t → t.Inv

/-- 10_state section 2 (R33, the spec's own derivation): VALID = 0 implies REG[i] = 0 for every i, at reset and after every step from a state where it holds. -/
def Obligations.NoMeasurementMeansNoRegisters : Prop :=
  State.reset.result.sentinel ∧ ∀ s t : State, s.result.sentinel → step s = .next t → t.result.sentinel

/-! ## Frames -/

/-- 10_state section 9 (R47, the spec's own derivation): a command writes nothing outside its row, and TX_BYTE, TX_SEAL and RX_BYTE write the buffer or its
overflow bit, not both. -/
def Obligations.CommandsWriteOnlyTheirRow : Prop :=
  (∀ (i : Instr) (s t : State), exec i s = .next t →
    (∀ f : Field, f ∉ writeSet i → f.same s t) ∧
    ((∃ b, i = .txByte b) ∨ i = .txSeal → t.tx = s.tx ∨ t.txOvf = s.txOvf) ∧
    ((∃ b, i = .rxByte b) → t.rx = s.rx ∨ t.rxOvf = s.rxOvf)) ∧
  (∀ (w : Word) (e : IllegalWord) (s : State), decode w = .illegal e → runWord w s = .next { s with illegal := true })

/-- 20_memory R75 with 10_state R47: every address a command does not touch reads as before. -/
def Obligations.UntouchedAddressesReadAsBefore : Prop :=
  ∀ (i : Instr) (s t : State) (a : Addr), exec i s = .next t → ¬ touches i s a.toNat → readWord t a = readWord s a

/-- 60_exceptions R303, R304, R307; 10_state R38, R39: each sticky bit is set and cleared only by its own commands. -/
def Obligations.StickyBitsChangeOnlyByTheirCommands : Prop :=
  ∀ (i : Instr) (s t : State), exec i s = .next t →
    (s.rxOvf = true → t.rxOvf = false → i = .rxClear) ∧
    (s.rxOvf = false → t.rxOvf = true → (∃ b, i = .rxByte b) ∧ s.caps.rx ≤ s.rx.length) ∧
    (s.txOvf = true → t.txOvf = false → i = .txClear ∨ i = .txBuildRead) ∧
    (s.txOvf = false → t.txOvf = true →
      ((∃ b, i = .txByte b) ∧ s.caps.tx ≤ s.tx.length) ∨ (i = .txSeal ∧ s.caps.tx < s.tx.length + 2)) ∧
    (s.illegal = true → t.illegal = false → i = .clrIllegal) ∧
    (s.illegal = false → t.illegal = false)
end

