-- ==== Sys2Proof/Laws/State.lean ====
section
/-! SUPPORT. One lemma per field per named update of State, each true by definition, so that no later proof unfolds a
record update. -/

namespace Sys2Proof.Machine

variable (s : State)


@[simp] theorem State.setCrc_crc (v : Half) : (s.setCrc v).crc = v := rfl
@[simp] theorem State.setCrc_expAddr (v : Half) : (s.setCrc v).expAddr = s.expAddr := rfl
@[simp] theorem State.setCrc_expFunc (v : Half) : (s.setCrc v).expFunc = s.expFunc := rfl
@[simp] theorem State.setCrc_expCount (v : Half) : (s.setCrc v).expCount = s.expCount := rfl
@[simp] theorem State.setCrc_start (v : Half) : (s.setCrc v).start = s.start := rfl
@[simp] theorem State.setCrc_rx (v : Half) : (s.setCrc v).rx = s.rx := rfl
@[simp] theorem State.setCrc_rxOvf (v : Half) : (s.setCrc v).rxOvf = s.rxOvf := rfl
@[simp] theorem State.setCrc_tx (v : Half) : (s.setCrc v).tx = s.tx := rfl
@[simp] theorem State.setCrc_txOvf (v : Half) : (s.setCrc v).txOvf = s.txOvf := rfl
@[simp] theorem State.setCrc_illegal (v : Half) : (s.setCrc v).illegal = s.illegal := rfl
@[simp] theorem State.setCrc_result (v : Half) : (s.setCrc v).result = s.result := rfl
@[simp] theorem State.setCrc_caps (v : Half) : (s.setCrc v).caps = s.caps := rfl
@[simp] theorem State.setCrc_cmdReady (v : Half) : (s.setCrc v).cmdReady = s.cmdReady := rfl
@[simp] theorem State.setCrc_inFlight (v : Half) : (s.setCrc v).inFlight = s.inFlight := rfl
@[simp] theorem State.setCrc_host (v : Half) : (s.setCrc v).host = s.host := rfl
@[simp] theorem State.setCrc_rdData (v : Half) : (s.setCrc v).rdData = s.rdData := rfl
@[simp] theorem State.setCrc_draws (v : Half) : (s.setCrc v).draws = s.draws := rfl

@[simp] theorem State.setExpAddr_crc (v : Byte) : (s.setExpAddr v).crc = s.crc := rfl
@[simp] theorem State.setExpAddr_expAddr (v : Byte) : (s.setExpAddr v).expAddr = v := rfl
@[simp] theorem State.setExpAddr_expFunc (v : Byte) : (s.setExpAddr v).expFunc = s.expFunc := rfl
@[simp] theorem State.setExpAddr_expCount (v : Byte) : (s.setExpAddr v).expCount = s.expCount := rfl
@[simp] theorem State.setExpAddr_start (v : Byte) : (s.setExpAddr v).start = s.start := rfl
@[simp] theorem State.setExpAddr_rx (v : Byte) : (s.setExpAddr v).rx = s.rx := rfl
@[simp] theorem State.setExpAddr_rxOvf (v : Byte) : (s.setExpAddr v).rxOvf = s.rxOvf := rfl
@[simp] theorem State.setExpAddr_tx (v : Byte) : (s.setExpAddr v).tx = s.tx := rfl
@[simp] theorem State.setExpAddr_txOvf (v : Byte) : (s.setExpAddr v).txOvf = s.txOvf := rfl
@[simp] theorem State.setExpAddr_illegal (v : Byte) : (s.setExpAddr v).illegal = s.illegal := rfl
@[simp] theorem State.setExpAddr_result (v : Byte) : (s.setExpAddr v).result = s.result := rfl
@[simp] theorem State.setExpAddr_caps (v : Byte) : (s.setExpAddr v).caps = s.caps := rfl
@[simp] theorem State.setExpAddr_cmdReady (v : Byte) : (s.setExpAddr v).cmdReady = s.cmdReady := rfl
@[simp] theorem State.setExpAddr_inFlight (v : Byte) : (s.setExpAddr v).inFlight = s.inFlight := rfl
@[simp] theorem State.setExpAddr_host (v : Byte) : (s.setExpAddr v).host = s.host := rfl
@[simp] theorem State.setExpAddr_rdData (v : Byte) : (s.setExpAddr v).rdData = s.rdData := rfl
@[simp] theorem State.setExpAddr_draws (v : Byte) : (s.setExpAddr v).draws = s.draws := rfl

@[simp] theorem State.setExpFunc_crc (v : Byte) : (s.setExpFunc v).crc = s.crc := rfl
@[simp] theorem State.setExpFunc_expAddr (v : Byte) : (s.setExpFunc v).expAddr = s.expAddr := rfl
@[simp] theorem State.setExpFunc_expFunc (v : Byte) : (s.setExpFunc v).expFunc = v := rfl
@[simp] theorem State.setExpFunc_expCount (v : Byte) : (s.setExpFunc v).expCount = s.expCount := rfl
@[simp] theorem State.setExpFunc_start (v : Byte) : (s.setExpFunc v).start = s.start := rfl
@[simp] theorem State.setExpFunc_rx (v : Byte) : (s.setExpFunc v).rx = s.rx := rfl
@[simp] theorem State.setExpFunc_rxOvf (v : Byte) : (s.setExpFunc v).rxOvf = s.rxOvf := rfl
@[simp] theorem State.setExpFunc_tx (v : Byte) : (s.setExpFunc v).tx = s.tx := rfl
@[simp] theorem State.setExpFunc_txOvf (v : Byte) : (s.setExpFunc v).txOvf = s.txOvf := rfl
@[simp] theorem State.setExpFunc_illegal (v : Byte) : (s.setExpFunc v).illegal = s.illegal := rfl
@[simp] theorem State.setExpFunc_result (v : Byte) : (s.setExpFunc v).result = s.result := rfl
@[simp] theorem State.setExpFunc_caps (v : Byte) : (s.setExpFunc v).caps = s.caps := rfl
@[simp] theorem State.setExpFunc_cmdReady (v : Byte) : (s.setExpFunc v).cmdReady = s.cmdReady := rfl
@[simp] theorem State.setExpFunc_inFlight (v : Byte) : (s.setExpFunc v).inFlight = s.inFlight := rfl
@[simp] theorem State.setExpFunc_host (v : Byte) : (s.setExpFunc v).host = s.host := rfl
@[simp] theorem State.setExpFunc_rdData (v : Byte) : (s.setExpFunc v).rdData = s.rdData := rfl
@[simp] theorem State.setExpFunc_draws (v : Byte) : (s.setExpFunc v).draws = s.draws := rfl

@[simp] theorem State.setExpCount_crc (v : Half) : (s.setExpCount v).crc = s.crc := rfl
@[simp] theorem State.setExpCount_expAddr (v : Half) : (s.setExpCount v).expAddr = s.expAddr := rfl
@[simp] theorem State.setExpCount_expFunc (v : Half) : (s.setExpCount v).expFunc = s.expFunc := rfl
@[simp] theorem State.setExpCount_expCount (v : Half) : (s.setExpCount v).expCount = v := rfl
@[simp] theorem State.setExpCount_start (v : Half) : (s.setExpCount v).start = s.start := rfl
@[simp] theorem State.setExpCount_rx (v : Half) : (s.setExpCount v).rx = s.rx := rfl
@[simp] theorem State.setExpCount_rxOvf (v : Half) : (s.setExpCount v).rxOvf = s.rxOvf := rfl
@[simp] theorem State.setExpCount_tx (v : Half) : (s.setExpCount v).tx = s.tx := rfl
@[simp] theorem State.setExpCount_txOvf (v : Half) : (s.setExpCount v).txOvf = s.txOvf := rfl
@[simp] theorem State.setExpCount_illegal (v : Half) : (s.setExpCount v).illegal = s.illegal := rfl
@[simp] theorem State.setExpCount_result (v : Half) : (s.setExpCount v).result = s.result := rfl
@[simp] theorem State.setExpCount_caps (v : Half) : (s.setExpCount v).caps = s.caps := rfl
@[simp] theorem State.setExpCount_cmdReady (v : Half) : (s.setExpCount v).cmdReady = s.cmdReady := rfl
@[simp] theorem State.setExpCount_inFlight (v : Half) : (s.setExpCount v).inFlight = s.inFlight := rfl
@[simp] theorem State.setExpCount_host (v : Half) : (s.setExpCount v).host = s.host := rfl
@[simp] theorem State.setExpCount_rdData (v : Half) : (s.setExpCount v).rdData = s.rdData := rfl
@[simp] theorem State.setExpCount_draws (v : Half) : (s.setExpCount v).draws = s.draws := rfl

@[simp] theorem State.setStart_crc (v : Half) : (s.setStart v).crc = s.crc := rfl
@[simp] theorem State.setStart_expAddr (v : Half) : (s.setStart v).expAddr = s.expAddr := rfl
@[simp] theorem State.setStart_expFunc (v : Half) : (s.setStart v).expFunc = s.expFunc := rfl
@[simp] theorem State.setStart_expCount (v : Half) : (s.setStart v).expCount = s.expCount := rfl
@[simp] theorem State.setStart_start (v : Half) : (s.setStart v).start = v := rfl
@[simp] theorem State.setStart_rx (v : Half) : (s.setStart v).rx = s.rx := rfl
@[simp] theorem State.setStart_rxOvf (v : Half) : (s.setStart v).rxOvf = s.rxOvf := rfl
@[simp] theorem State.setStart_tx (v : Half) : (s.setStart v).tx = s.tx := rfl
@[simp] theorem State.setStart_txOvf (v : Half) : (s.setStart v).txOvf = s.txOvf := rfl
@[simp] theorem State.setStart_illegal (v : Half) : (s.setStart v).illegal = s.illegal := rfl
@[simp] theorem State.setStart_result (v : Half) : (s.setStart v).result = s.result := rfl
@[simp] theorem State.setStart_caps (v : Half) : (s.setStart v).caps = s.caps := rfl
@[simp] theorem State.setStart_cmdReady (v : Half) : (s.setStart v).cmdReady = s.cmdReady := rfl
@[simp] theorem State.setStart_inFlight (v : Half) : (s.setStart v).inFlight = s.inFlight := rfl
@[simp] theorem State.setStart_host (v : Half) : (s.setStart v).host = s.host := rfl
@[simp] theorem State.setStart_rdData (v : Half) : (s.setStart v).rdData = s.rdData := rfl
@[simp] theorem State.setStart_draws (v : Half) : (s.setStart v).draws = s.draws := rfl

@[simp] theorem State.setRx_crc (v : List Byte) : (s.setRx v).crc = s.crc := rfl
@[simp] theorem State.setRx_expAddr (v : List Byte) : (s.setRx v).expAddr = s.expAddr := rfl
@[simp] theorem State.setRx_expFunc (v : List Byte) : (s.setRx v).expFunc = s.expFunc := rfl
@[simp] theorem State.setRx_expCount (v : List Byte) : (s.setRx v).expCount = s.expCount := rfl
@[simp] theorem State.setRx_start (v : List Byte) : (s.setRx v).start = s.start := rfl
@[simp] theorem State.setRx_rx (v : List Byte) : (s.setRx v).rx = v := rfl
@[simp] theorem State.setRx_rxOvf (v : List Byte) : (s.setRx v).rxOvf = s.rxOvf := rfl
@[simp] theorem State.setRx_tx (v : List Byte) : (s.setRx v).tx = s.tx := rfl
@[simp] theorem State.setRx_txOvf (v : List Byte) : (s.setRx v).txOvf = s.txOvf := rfl
@[simp] theorem State.setRx_illegal (v : List Byte) : (s.setRx v).illegal = s.illegal := rfl
@[simp] theorem State.setRx_result (v : List Byte) : (s.setRx v).result = s.result := rfl
@[simp] theorem State.setRx_caps (v : List Byte) : (s.setRx v).caps = s.caps := rfl
@[simp] theorem State.setRx_cmdReady (v : List Byte) : (s.setRx v).cmdReady = s.cmdReady := rfl
@[simp] theorem State.setRx_inFlight (v : List Byte) : (s.setRx v).inFlight = s.inFlight := rfl
@[simp] theorem State.setRx_host (v : List Byte) : (s.setRx v).host = s.host := rfl
@[simp] theorem State.setRx_rdData (v : List Byte) : (s.setRx v).rdData = s.rdData := rfl
@[simp] theorem State.setRx_draws (v : List Byte) : (s.setRx v).draws = s.draws := rfl

@[simp] theorem State.setRxOvf_crc (v : Bool) : (s.setRxOvf v).crc = s.crc := rfl
@[simp] theorem State.setRxOvf_expAddr (v : Bool) : (s.setRxOvf v).expAddr = s.expAddr := rfl
@[simp] theorem State.setRxOvf_expFunc (v : Bool) : (s.setRxOvf v).expFunc = s.expFunc := rfl
@[simp] theorem State.setRxOvf_expCount (v : Bool) : (s.setRxOvf v).expCount = s.expCount := rfl
@[simp] theorem State.setRxOvf_start (v : Bool) : (s.setRxOvf v).start = s.start := rfl
@[simp] theorem State.setRxOvf_rx (v : Bool) : (s.setRxOvf v).rx = s.rx := rfl
@[simp] theorem State.setRxOvf_rxOvf (v : Bool) : (s.setRxOvf v).rxOvf = v := rfl
@[simp] theorem State.setRxOvf_tx (v : Bool) : (s.setRxOvf v).tx = s.tx := rfl
@[simp] theorem State.setRxOvf_txOvf (v : Bool) : (s.setRxOvf v).txOvf = s.txOvf := rfl
@[simp] theorem State.setRxOvf_illegal (v : Bool) : (s.setRxOvf v).illegal = s.illegal := rfl
@[simp] theorem State.setRxOvf_result (v : Bool) : (s.setRxOvf v).result = s.result := rfl
@[simp] theorem State.setRxOvf_caps (v : Bool) : (s.setRxOvf v).caps = s.caps := rfl
@[simp] theorem State.setRxOvf_cmdReady (v : Bool) : (s.setRxOvf v).cmdReady = s.cmdReady := rfl
@[simp] theorem State.setRxOvf_inFlight (v : Bool) : (s.setRxOvf v).inFlight = s.inFlight := rfl
@[simp] theorem State.setRxOvf_host (v : Bool) : (s.setRxOvf v).host = s.host := rfl
@[simp] theorem State.setRxOvf_rdData (v : Bool) : (s.setRxOvf v).rdData = s.rdData := rfl
@[simp] theorem State.setRxOvf_draws (v : Bool) : (s.setRxOvf v).draws = s.draws := rfl

@[simp] theorem State.setTx_crc (v : List Byte) : (s.setTx v).crc = s.crc := rfl
@[simp] theorem State.setTx_expAddr (v : List Byte) : (s.setTx v).expAddr = s.expAddr := rfl
@[simp] theorem State.setTx_expFunc (v : List Byte) : (s.setTx v).expFunc = s.expFunc := rfl
@[simp] theorem State.setTx_expCount (v : List Byte) : (s.setTx v).expCount = s.expCount := rfl
@[simp] theorem State.setTx_start (v : List Byte) : (s.setTx v).start = s.start := rfl
@[simp] theorem State.setTx_rx (v : List Byte) : (s.setTx v).rx = s.rx := rfl
@[simp] theorem State.setTx_rxOvf (v : List Byte) : (s.setTx v).rxOvf = s.rxOvf := rfl
@[simp] theorem State.setTx_tx (v : List Byte) : (s.setTx v).tx = v := rfl
@[simp] theorem State.setTx_txOvf (v : List Byte) : (s.setTx v).txOvf = s.txOvf := rfl
@[simp] theorem State.setTx_illegal (v : List Byte) : (s.setTx v).illegal = s.illegal := rfl
@[simp] theorem State.setTx_result (v : List Byte) : (s.setTx v).result = s.result := rfl
@[simp] theorem State.setTx_caps (v : List Byte) : (s.setTx v).caps = s.caps := rfl
@[simp] theorem State.setTx_cmdReady (v : List Byte) : (s.setTx v).cmdReady = s.cmdReady := rfl
@[simp] theorem State.setTx_inFlight (v : List Byte) : (s.setTx v).inFlight = s.inFlight := rfl
@[simp] theorem State.setTx_host (v : List Byte) : (s.setTx v).host = s.host := rfl
@[simp] theorem State.setTx_rdData (v : List Byte) : (s.setTx v).rdData = s.rdData := rfl
@[simp] theorem State.setTx_draws (v : List Byte) : (s.setTx v).draws = s.draws := rfl

@[simp] theorem State.setTxOvf_crc (v : Bool) : (s.setTxOvf v).crc = s.crc := rfl
@[simp] theorem State.setTxOvf_expAddr (v : Bool) : (s.setTxOvf v).expAddr = s.expAddr := rfl
@[simp] theorem State.setTxOvf_expFunc (v : Bool) : (s.setTxOvf v).expFunc = s.expFunc := rfl
@[simp] theorem State.setTxOvf_expCount (v : Bool) : (s.setTxOvf v).expCount = s.expCount := rfl
@[simp] theorem State.setTxOvf_start (v : Bool) : (s.setTxOvf v).start = s.start := rfl
@[simp] theorem State.setTxOvf_rx (v : Bool) : (s.setTxOvf v).rx = s.rx := rfl
@[simp] theorem State.setTxOvf_rxOvf (v : Bool) : (s.setTxOvf v).rxOvf = s.rxOvf := rfl
@[simp] theorem State.setTxOvf_tx (v : Bool) : (s.setTxOvf v).tx = s.tx := rfl
@[simp] theorem State.setTxOvf_txOvf (v : Bool) : (s.setTxOvf v).txOvf = v := rfl
@[simp] theorem State.setTxOvf_illegal (v : Bool) : (s.setTxOvf v).illegal = s.illegal := rfl
@[simp] theorem State.setTxOvf_result (v : Bool) : (s.setTxOvf v).result = s.result := rfl
@[simp] theorem State.setTxOvf_caps (v : Bool) : (s.setTxOvf v).caps = s.caps := rfl
@[simp] theorem State.setTxOvf_cmdReady (v : Bool) : (s.setTxOvf v).cmdReady = s.cmdReady := rfl
@[simp] theorem State.setTxOvf_inFlight (v : Bool) : (s.setTxOvf v).inFlight = s.inFlight := rfl
@[simp] theorem State.setTxOvf_host (v : Bool) : (s.setTxOvf v).host = s.host := rfl
@[simp] theorem State.setTxOvf_rdData (v : Bool) : (s.setTxOvf v).rdData = s.rdData := rfl
@[simp] theorem State.setTxOvf_draws (v : Bool) : (s.setTxOvf v).draws = s.draws := rfl

@[simp] theorem State.setIllegal_crc (v : Bool) : (s.setIllegal v).crc = s.crc := rfl
@[simp] theorem State.setIllegal_expAddr (v : Bool) : (s.setIllegal v).expAddr = s.expAddr := rfl
@[simp] theorem State.setIllegal_expFunc (v : Bool) : (s.setIllegal v).expFunc = s.expFunc := rfl
@[simp] theorem State.setIllegal_expCount (v : Bool) : (s.setIllegal v).expCount = s.expCount := rfl
@[simp] theorem State.setIllegal_start (v : Bool) : (s.setIllegal v).start = s.start := rfl
@[simp] theorem State.setIllegal_rx (v : Bool) : (s.setIllegal v).rx = s.rx := rfl
@[simp] theorem State.setIllegal_rxOvf (v : Bool) : (s.setIllegal v).rxOvf = s.rxOvf := rfl
@[simp] theorem State.setIllegal_tx (v : Bool) : (s.setIllegal v).tx = s.tx := rfl
@[simp] theorem State.setIllegal_txOvf (v : Bool) : (s.setIllegal v).txOvf = s.txOvf := rfl
@[simp] theorem State.setIllegal_illegal (v : Bool) : (s.setIllegal v).illegal = v := rfl
@[simp] theorem State.setIllegal_result (v : Bool) : (s.setIllegal v).result = s.result := rfl
@[simp] theorem State.setIllegal_caps (v : Bool) : (s.setIllegal v).caps = s.caps := rfl
@[simp] theorem State.setIllegal_cmdReady (v : Bool) : (s.setIllegal v).cmdReady = s.cmdReady := rfl
@[simp] theorem State.setIllegal_inFlight (v : Bool) : (s.setIllegal v).inFlight = s.inFlight := rfl
@[simp] theorem State.setIllegal_host (v : Bool) : (s.setIllegal v).host = s.host := rfl
@[simp] theorem State.setIllegal_rdData (v : Bool) : (s.setIllegal v).rdData = s.rdData := rfl
@[simp] theorem State.setIllegal_draws (v : Bool) : (s.setIllegal v).draws = s.draws := rfl

@[simp] theorem State.setResult_crc (v : Result) : (s.setResult v).crc = s.crc := rfl
@[simp] theorem State.setResult_expAddr (v : Result) : (s.setResult v).expAddr = s.expAddr := rfl
@[simp] theorem State.setResult_expFunc (v : Result) : (s.setResult v).expFunc = s.expFunc := rfl
@[simp] theorem State.setResult_expCount (v : Result) : (s.setResult v).expCount = s.expCount := rfl
@[simp] theorem State.setResult_start (v : Result) : (s.setResult v).start = s.start := rfl
@[simp] theorem State.setResult_rx (v : Result) : (s.setResult v).rx = s.rx := rfl
@[simp] theorem State.setResult_rxOvf (v : Result) : (s.setResult v).rxOvf = s.rxOvf := rfl
@[simp] theorem State.setResult_tx (v : Result) : (s.setResult v).tx = s.tx := rfl
@[simp] theorem State.setResult_txOvf (v : Result) : (s.setResult v).txOvf = s.txOvf := rfl
@[simp] theorem State.setResult_illegal (v : Result) : (s.setResult v).illegal = s.illegal := rfl
@[simp] theorem State.setResult_result (v : Result) : (s.setResult v).result = v := rfl
@[simp] theorem State.setResult_caps (v : Result) : (s.setResult v).caps = s.caps := rfl
@[simp] theorem State.setResult_cmdReady (v : Result) : (s.setResult v).cmdReady = s.cmdReady := rfl
@[simp] theorem State.setResult_inFlight (v : Result) : (s.setResult v).inFlight = s.inFlight := rfl
@[simp] theorem State.setResult_host (v : Result) : (s.setResult v).host = s.host := rfl
@[simp] theorem State.setResult_rdData (v : Result) : (s.setResult v).rdData = s.rdData := rfl
@[simp] theorem State.setResult_draws (v : Result) : (s.setResult v).draws = s.draws := rfl

@[simp] theorem State.setPort_crc (r : Bool) (f : Option InFlight) : (s.setPort r f).crc = s.crc := rfl
@[simp] theorem State.setPort_expAddr (r : Bool) (f : Option InFlight) : (s.setPort r f).expAddr = s.expAddr := rfl
@[simp] theorem State.setPort_expFunc (r : Bool) (f : Option InFlight) : (s.setPort r f).expFunc = s.expFunc := rfl
@[simp] theorem State.setPort_expCount (r : Bool) (f : Option InFlight) : (s.setPort r f).expCount = s.expCount := rfl
@[simp] theorem State.setPort_start (r : Bool) (f : Option InFlight) : (s.setPort r f).start = s.start := rfl
@[simp] theorem State.setPort_rx (r : Bool) (f : Option InFlight) : (s.setPort r f).rx = s.rx := rfl
@[simp] theorem State.setPort_rxOvf (r : Bool) (f : Option InFlight) : (s.setPort r f).rxOvf = s.rxOvf := rfl
@[simp] theorem State.setPort_tx (r : Bool) (f : Option InFlight) : (s.setPort r f).tx = s.tx := rfl
@[simp] theorem State.setPort_txOvf (r : Bool) (f : Option InFlight) : (s.setPort r f).txOvf = s.txOvf := rfl
@[simp] theorem State.setPort_illegal (r : Bool) (f : Option InFlight) : (s.setPort r f).illegal = s.illegal := rfl
@[simp] theorem State.setPort_result (r : Bool) (f : Option InFlight) : (s.setPort r f).result = s.result := rfl
@[simp] theorem State.setPort_caps (r : Bool) (f : Option InFlight) : (s.setPort r f).caps = s.caps := rfl
@[simp] theorem State.setPort_cmdReady (r : Bool) (f : Option InFlight) : (s.setPort r f).cmdReady = r := rfl
@[simp] theorem State.setPort_inFlight (r : Bool) (f : Option InFlight) : (s.setPort r f).inFlight = f := rfl
@[simp] theorem State.setPort_host (r : Bool) (f : Option InFlight) : (s.setPort r f).host = s.host := rfl
@[simp] theorem State.setPort_rdData (r : Bool) (f : Option InFlight) : (s.setPort r f).rdData = s.rdData := rfl
@[simp] theorem State.setPort_draws (r : Bool) (f : Option InFlight) : (s.setPort r f).draws = s.draws := rfl

@[simp] theorem State.setHost_crc (v : List HostAction) : (s.setHost v).crc = s.crc := rfl
@[simp] theorem State.setHost_expAddr (v : List HostAction) : (s.setHost v).expAddr = s.expAddr := rfl
@[simp] theorem State.setHost_expFunc (v : List HostAction) : (s.setHost v).expFunc = s.expFunc := rfl
@[simp] theorem State.setHost_expCount (v : List HostAction) : (s.setHost v).expCount = s.expCount := rfl
@[simp] theorem State.setHost_start (v : List HostAction) : (s.setHost v).start = s.start := rfl
@[simp] theorem State.setHost_rx (v : List HostAction) : (s.setHost v).rx = s.rx := rfl
@[simp] theorem State.setHost_rxOvf (v : List HostAction) : (s.setHost v).rxOvf = s.rxOvf := rfl
@[simp] theorem State.setHost_tx (v : List HostAction) : (s.setHost v).tx = s.tx := rfl
@[simp] theorem State.setHost_txOvf (v : List HostAction) : (s.setHost v).txOvf = s.txOvf := rfl
@[simp] theorem State.setHost_illegal (v : List HostAction) : (s.setHost v).illegal = s.illegal := rfl
@[simp] theorem State.setHost_result (v : List HostAction) : (s.setHost v).result = s.result := rfl
@[simp] theorem State.setHost_caps (v : List HostAction) : (s.setHost v).caps = s.caps := rfl
@[simp] theorem State.setHost_cmdReady (v : List HostAction) : (s.setHost v).cmdReady = s.cmdReady := rfl
@[simp] theorem State.setHost_inFlight (v : List HostAction) : (s.setHost v).inFlight = s.inFlight := rfl
@[simp] theorem State.setHost_host (v : List HostAction) : (s.setHost v).host = v := rfl
@[simp] theorem State.setHost_rdData (v : List HostAction) : (s.setHost v).rdData = s.rdData := rfl
@[simp] theorem State.setHost_draws (v : List HostAction) : (s.setHost v).draws = s.draws := rfl

@[simp] theorem State.setRead_crc (v : Word) (n : Nat) : (s.setRead v n).crc = s.crc := rfl
@[simp] theorem State.setRead_expAddr (v : Word) (n : Nat) : (s.setRead v n).expAddr = s.expAddr := rfl
@[simp] theorem State.setRead_expFunc (v : Word) (n : Nat) : (s.setRead v n).expFunc = s.expFunc := rfl
@[simp] theorem State.setRead_expCount (v : Word) (n : Nat) : (s.setRead v n).expCount = s.expCount := rfl
@[simp] theorem State.setRead_start (v : Word) (n : Nat) : (s.setRead v n).start = s.start := rfl
@[simp] theorem State.setRead_rx (v : Word) (n : Nat) : (s.setRead v n).rx = s.rx := rfl
@[simp] theorem State.setRead_rxOvf (v : Word) (n : Nat) : (s.setRead v n).rxOvf = s.rxOvf := rfl
@[simp] theorem State.setRead_tx (v : Word) (n : Nat) : (s.setRead v n).tx = s.tx := rfl
@[simp] theorem State.setRead_txOvf (v : Word) (n : Nat) : (s.setRead v n).txOvf = s.txOvf := rfl
@[simp] theorem State.setRead_illegal (v : Word) (n : Nat) : (s.setRead v n).illegal = s.illegal := rfl
@[simp] theorem State.setRead_result (v : Word) (n : Nat) : (s.setRead v n).result = s.result := rfl
@[simp] theorem State.setRead_caps (v : Word) (n : Nat) : (s.setRead v n).caps = s.caps := rfl
@[simp] theorem State.setRead_cmdReady (v : Word) (n : Nat) : (s.setRead v n).cmdReady = s.cmdReady := rfl
@[simp] theorem State.setRead_inFlight (v : Word) (n : Nat) : (s.setRead v n).inFlight = s.inFlight := rfl
@[simp] theorem State.setRead_host (v : Word) (n : Nat) : (s.setRead v n).host = s.host := rfl
@[simp] theorem State.setRead_rdData (v : Word) (n : Nat) : (s.setRead v n).rdData = v := rfl
@[simp] theorem State.setRead_draws (v : Word) (n : Nat) : (s.setRead v n).draws = n := rfl

@[simp] theorem clearResult_crc : (clearResult s).crc = s.crc := rfl
@[simp] theorem clearResult_expAddr : (clearResult s).expAddr = s.expAddr := rfl
@[simp] theorem clearResult_expFunc : (clearResult s).expFunc = s.expFunc := rfl
@[simp] theorem clearResult_expCount : (clearResult s).expCount = s.expCount := rfl
@[simp] theorem clearResult_start : (clearResult s).start = s.start := rfl
@[simp] theorem clearResult_rx : (clearResult s).rx = s.rx := rfl
@[simp] theorem clearResult_rxOvf : (clearResult s).rxOvf = s.rxOvf := rfl
@[simp] theorem clearResult_tx : (clearResult s).tx = s.tx := rfl
@[simp] theorem clearResult_txOvf : (clearResult s).txOvf = s.txOvf := rfl
@[simp] theorem clearResult_illegal : (clearResult s).illegal = s.illegal := rfl
@[simp] theorem clearResult_result : (clearResult s).result = Result.cleared := rfl
@[simp] theorem clearResult_caps : (clearResult s).caps = s.caps := rfl
@[simp] theorem clearResult_cmdReady : (clearResult s).cmdReady = s.cmdReady := rfl
@[simp] theorem clearResult_inFlight : (clearResult s).inFlight = s.inFlight := rfl
@[simp] theorem clearResult_host : (clearResult s).host = s.host := rfl
@[simp] theorem clearResult_rdData : (clearResult s).rdData = s.rdData := rfl
@[simp] theorem clearResult_draws : (clearResult s).draws = s.draws := rfl

@[simp] theorem flagIllegal_crc : (flagIllegal s).crc = s.crc := rfl
@[simp] theorem flagIllegal_expAddr : (flagIllegal s).expAddr = s.expAddr := rfl
@[simp] theorem flagIllegal_expFunc : (flagIllegal s).expFunc = s.expFunc := rfl
@[simp] theorem flagIllegal_expCount : (flagIllegal s).expCount = s.expCount := rfl
@[simp] theorem flagIllegal_start : (flagIllegal s).start = s.start := rfl
@[simp] theorem flagIllegal_rx : (flagIllegal s).rx = s.rx := rfl
@[simp] theorem flagIllegal_rxOvf : (flagIllegal s).rxOvf = s.rxOvf := rfl
@[simp] theorem flagIllegal_tx : (flagIllegal s).tx = s.tx := rfl
@[simp] theorem flagIllegal_txOvf : (flagIllegal s).txOvf = s.txOvf := rfl
@[simp] theorem flagIllegal_illegal : (flagIllegal s).illegal = true := rfl
@[simp] theorem flagIllegal_result : (flagIllegal s).result = s.result := rfl
@[simp] theorem flagIllegal_caps : (flagIllegal s).caps = s.caps := rfl
@[simp] theorem flagIllegal_cmdReady : (flagIllegal s).cmdReady = s.cmdReady := rfl
@[simp] theorem flagIllegal_inFlight : (flagIllegal s).inFlight = s.inFlight := rfl
@[simp] theorem flagIllegal_host : (flagIllegal s).host = s.host := rfl
@[simp] theorem flagIllegal_rdData : (flagIllegal s).rdData = s.rdData := rfl
@[simp] theorem flagIllegal_draws : (flagIllegal s).draws = s.draws := rfl

@[simp] theorem recordOutcome_crc (r : Result) : (recordOutcome r s).crc = s.crc := rfl
@[simp] theorem recordOutcome_expAddr (r : Result) : (recordOutcome r s).expAddr = s.expAddr := rfl
@[simp] theorem recordOutcome_expFunc (r : Result) : (recordOutcome r s).expFunc = s.expFunc := rfl
@[simp] theorem recordOutcome_expCount (r : Result) : (recordOutcome r s).expCount = s.expCount := rfl
@[simp] theorem recordOutcome_start (r : Result) : (recordOutcome r s).start = s.start := rfl
@[simp] theorem recordOutcome_rx (r : Result) : (recordOutcome r s).rx = s.rx := rfl
@[simp] theorem recordOutcome_rxOvf (r : Result) : (recordOutcome r s).rxOvf = s.rxOvf := rfl
@[simp] theorem recordOutcome_tx (r : Result) : (recordOutcome r s).tx = s.tx := rfl
@[simp] theorem recordOutcome_txOvf (r : Result) : (recordOutcome r s).txOvf = s.txOvf := rfl
@[simp] theorem recordOutcome_illegal (r : Result) : (recordOutcome r s).illegal = s.illegal := rfl
@[simp] theorem recordOutcome_result (r : Result) : (recordOutcome r s).result = r := rfl
@[simp] theorem recordOutcome_caps (r : Result) : (recordOutcome r s).caps = s.caps := rfl
@[simp] theorem recordOutcome_cmdReady (r : Result) : (recordOutcome r s).cmdReady = s.cmdReady := rfl
@[simp] theorem recordOutcome_inFlight (r : Result) : (recordOutcome r s).inFlight = s.inFlight := rfl
@[simp] theorem recordOutcome_host (r : Result) : (recordOutcome r s).host = s.host := rfl
@[simp] theorem recordOutcome_rdData (r : Result) : (recordOutcome r s).rdData = s.rdData := rfl
@[simp] theorem recordOutcome_draws (r : Result) : (recordOutcome r s).draws = s.draws := rfl

@[simp] theorem resetFields_crc : (resetFields s).crc = State.reset.crc := rfl
@[simp] theorem resetFields_expAddr : (resetFields s).expAddr = State.reset.expAddr := rfl
@[simp] theorem resetFields_expFunc : (resetFields s).expFunc = State.reset.expFunc := rfl
@[simp] theorem resetFields_expCount : (resetFields s).expCount = State.reset.expCount := rfl
@[simp] theorem resetFields_start : (resetFields s).start = State.reset.start := rfl
@[simp] theorem resetFields_rx : (resetFields s).rx = State.reset.rx := rfl
@[simp] theorem resetFields_rxOvf : (resetFields s).rxOvf = State.reset.rxOvf := rfl
@[simp] theorem resetFields_tx : (resetFields s).tx = State.reset.tx := rfl
@[simp] theorem resetFields_txOvf : (resetFields s).txOvf = State.reset.txOvf := rfl
@[simp] theorem resetFields_illegal : (resetFields s).illegal = State.reset.illegal := rfl
@[simp] theorem resetFields_result : (resetFields s).result = State.reset.result := rfl
@[simp] theorem resetFields_caps : (resetFields s).caps = s.caps := rfl
@[simp] theorem resetFields_cmdReady : (resetFields s).cmdReady = State.reset.cmdReady := rfl
@[simp] theorem resetFields_inFlight : (resetFields s).inFlight = State.reset.inFlight := rfl
@[simp] theorem resetFields_host : (resetFields s).host = s.host := rfl
@[simp] theorem resetFields_rdData : (resetFields s).rdData = s.rdData := rfl
@[simp] theorem resetFields_draws : (resetFields s).draws = s.draws := rfl

end Sys2Proof.Machine
end

