-- ==== Sys2Proof/Laws/Ops.lean ====
section
/-! SUPPORT. What each shared operation can do, said once: the appends, the checks and the outcome, the command port and
the read port. Later proofs cite these and do not unfold the operations. -/

namespace Sys2Proof

@[simp] theorem Opcode.ofCode_code (o : Opcode) : Opcode.ofCode o.code = some o := by cases o <;> rfl

/-- The only opcode found for a byte is one with that code. -/
theorem Opcode.code_of_ofCode {b : Byte} {o : Opcode} (h : Opcode.ofCode b = some o) : o.code = b := by
  simpa using List.find?_some h

/-- The fields of an assembled word are the ones it was assembled from. -/
@[simp] theorem fieldsOf_word (f : Fields) : fieldsOf f.word = f := by
  cases f with
  | mk op a d =>
    simp only [fieldsOf, Fields.word, Fields.mk.injEq]
    refine ⟨?_, ?_, ?_⟩ <;> ext i hi <;>
      simp only [BitVec.getElem_extractLsb', BitVec.getLsbD_append] <;> grind

/-- Bit i of a word is a bit of D, A or OP (30_encoding R100). -/
theorem Fields.getLsbD_word (f : Fields) (i : Nat) :
    f.word.getLsbD i =
      if i < 16 then f.d.getLsbD i else if i < 24 then f.a.getLsbD (i - 16) else f.op.getLsbD (i - 24) := by
  have h : f.word.getLsbD i = if i < 16 then f.d.getLsbD i else (f.op ++ f.a).getLsbD (i - 16) :=
    BitVec.getLsbD_append
  have e : i - 16 - 8 = i - 24 := by omega
  rw [h, BitVec.getLsbD_append, e]
  split
  · rfl
  · split <;> split <;> first | rfl | omega

/-- An operand carries its field's width in its type, so every command is well-formed. -/
theorem Instr.wf_all (i : Instr) : i.wf = true := by
  cases i <;> simp [Instr.wf, Instr.use, Instr.operand, OperandUse.admits] <;> omega

/-- A command's opcode uses the field that holds the command's operand. -/
theorem Instr.use_opcode (i : Instr) : i.opcode.use = i.use := by cases i <;> rfl

namespace Machine

/-- Bit i of {hi, lo}. -/
theorem getLsbD_halfOf (hi lo : Byte) (i : Nat) :
    (halfOf hi lo).getLsbD i = if i < 8 then lo.getLsbD i else hi.getLsbD (i - 8) := BitVec.getLsbD_append

/-- Bit i of {hi, lo} for two halves. -/
theorem getLsbD_comb (lo hi : Half) (i : Nat) :
    (comb lo hi).getLsbD i = if i < 16 then lo.getLsbD i else hi.getLsbD (i - 16) := BitVec.getLsbD_append

/-- The value of {hi, lo}. -/
theorem toNat_halfOf (hi lo : Byte) : (halfOf hi lo).toNat = hi.toNat * 256 + lo.toNat := by
  have h : (halfOf hi lo).toNat = hi.toNat <<< 8 ||| lo.toNat := BitVec.toNat_append hi lo
  rw [h, ← Nat.shiftLeft_add_eq_or_of_lt (i := 8) lo.isLt, Nat.shiftLeft_eq]

/-- The value of comb(lo, hi). -/
theorem toNat_comb (lo hi : Half) : (comb lo hi).toNat = lo.toNat + hi.toNat * 65536 := by
  have h : (comb lo hi).toNat = hi.toNat <<< 16 ||| lo.toNat := BitVec.toNat_append hi lo
  rw [h, ← Nat.shiftLeft_add_eq_or_of_lt (i := 16) lo.isLt, Nat.shiftLeft_eq, Nat.add_comm]

@[simp] theorem loByte_halfOf (hi lo : Byte) : loByte (halfOf hi lo) = lo := by
  ext i h
  simp only [loByte, BitVec.getElem_extractLsb', getLsbD_halfOf]
  simp [h]

@[simp] theorem hiByte_halfOf (hi lo : Byte) : hiByte (halfOf hi lo) = hi := by
  ext i h
  simp only [hiByte, BitVec.getElem_extractLsb', getLsbD_halfOf]
  simp [h]

@[simp] theorem halfOf_hiByte_loByte (v : Half) : halfOf (hiByte v) (loByte v) = v := by
  ext i h
  rw [← BitVec.getLsbD_eq_getElem, ← BitVec.getLsbD_eq_getElem, getLsbD_halfOf]
  simp only [hiByte, loByte, BitVec.getLsbD_extractLsb']
  by_cases hi : i < 8
  · simp [hi]
  · have e : 8 + (i - 8) = i := by omega
    have hj : i - 8 < 8 := by omega
    simp [hi, e, hj]

/-- A 16-bit value is its two bytes. -/
theorem half_eq_iff {a b : Half} : a = b ↔ loByte a = loByte b ∧ hiByte a = hiByte b := by
  constructor
  · rintro rfl
    exact ⟨rfl, rfl⟩
  · rintro ⟨hl, hh⟩
    rw [← halfOf_hiByte_loByte a, ← halfOf_hiByte_loByte b, hl, hh]

/-- Within a frame, byteAt is the frame's byte. -/
theorem byteAt_eq_iff {frame : List Byte} {i : Nat} (h : i < frame.length) (b : Byte) :
    byteAt frame i = b ↔ frame[i]? = some b := by
  simp [byteAt, List.getD_eq_getElem?_getD, List.getElem?_eq_getElem h]

/-- The last two bytes of a frame are the ones trailerOf reads. -/
theorem drop_trailer {frame : List Byte} (h : 2 ≤ frame.length) :
    frame.drop (frame.length - 2) = [loByte (trailerOf frame), hiByte (trailerOf frame)] := by
  apply List.ext_getElem
  · simp; omega
  · intro i _ hi
    have hi' : i < 2 := hi
    have h0 : byteAt frame (frame.length - 2 + i) = frame[frame.length - 2 + i]'(by omega) := by
      simp [byteAt, List.getD_eq_getElem?_getD,
        List.getElem?_eq_getElem (by omega : frame.length - 2 + i < frame.length)]
    have : i = 0 ∨ i = 1 := by omega
    rcases this with rfl | rfl
    · simpa [trailerOf] using h0.symm
    · have e : frame.length - 2 + 1 = frame.length - 1 := by omega
      simpa [trailerOf, e] using h0.symm

/-- The CRC continued over two parts is continued part by part. -/
@[simp] theorem crcFrom_append (c : Half) (as bs : List Byte) :
    crcFrom c (as ++ bs) = crcFrom (crcFrom c as) bs := by simp [crcFrom]

@[simp] theorem crcFrom_nil (c : Half) : crcFrom c [] = c := rfl

@[simp] theorem crcFrom_cons (c : Half) (b : Byte) (bs : List Byte) :
    crcFrom c (b :: bs) = crcFrom (crcUpd c b) bs := rfl

@[simp] theorem trailer_length (bs : List Byte) : (trailer bs).length = 2 := rfl

/-- The CRC check of 43_rx_validation R208 passes exactly when the frame ends in its trailer. -/
theorem crc_matches_iff {frame : List Byte} (h : 2 ≤ frame.length) :
    crc16 (bodyOf frame) = trailerOf frame ↔
      frame.drop (frame.length - 2) = trailer (frame.take (frame.length - 2)) := by
  rw [drop_trailer h, half_eq_iff]
  simp only [trailer, bodyOf, List.cons.injEq, and_true]
  exact and_congr eq_comm eq_comm

/-- Appending to tx either appends every byte or drops them all and sets TX_OVF. -/
theorem txAppend_cases (bs : List Byte) (s : State) :
    (s.tx.length + bs.length ≤ s.caps.tx ∧ txAppend bs s = s.setTx (s.tx ++ bs)) ∨
    (s.caps.tx < s.tx.length + bs.length ∧ txAppend bs s = s.setTxOvf true) := by
  by_cases h : s.tx.length + bs.length ≤ s.caps.tx
  · exact .inl ⟨h, if_pos h⟩
  · exact .inr ⟨by omega, if_neg h⟩

/-- Appending to rx either appends the byte or drops it and sets RX_OVF. -/
theorem rxAppend_cases (b : Byte) (s : State) :
    (s.rx.length < s.caps.rx ∧ rxAppend b s = s.setRx (s.rx ++ [b])) ∨
    (s.caps.rx ≤ s.rx.length ∧ rxAppend b s = s.setRxOvf true) := by
  by_cases h : s.rx.length < s.caps.rx
  · exact .inl ⟨h, if_pos h⟩
  · exact .inr ⟨by omega, if_neg h⟩

theorem txAppend_length (bs : List Byte) (s : State) (h : s.tx.length ≤ s.caps.tx) :
    (txAppend bs s).tx.length ≤ (txAppend bs s).caps.tx := by
  rcases txAppend_cases bs s with ⟨hl, e⟩ | ⟨-, e⟩ <;> rw [e] <;> simp <;> omega

theorem rxAppend_length (b : Byte) (s : State) (h : s.rx.length ≤ s.caps.rx) :
    (rxAppend b s).rx.length ≤ (rxAppend b s).caps.rx := by
  rcases rxAppend_cases b s with ⟨hl, e⟩ | ⟨-, e⟩ <;> rw [e] <;> simp <;> omega

/-- The checks of an evaluable frame never report OVF or SHORT. -/
theorem checksOf_evaluable {m : ValidateMode} {len : Nat} {s : State} (h : evaluable s = true) :
    (checksOf m len s).ovf = false ∧ (checksOf m len s).short = false := by simp [checksOf, h]

/-- The checks of a frame that is not evaluable are OVF and SHORT alone. -/
theorem checksOf_not_evaluable {m : ValidateMode} {len : Nat} {s : State} (h : evaluable s = false) :
    checksOf m len s = { Checks.clear with ovf := s.rxOvf, short := decide (s.rx.length < 4) } := by
  simp [checksOf, h]

/-- No cause means that no check failed. -/
theorem Checks.cause_none {k : Checks} : k.cause = .none ↔ k = Checks.clear := by
  rcases k with ⟨a, b, c, d, e, f, g, h, i⟩
  cases a <;> cases b <;> cases c <;> cases d <;> cases e <;> cases f <;> cases g <;> cases h <;> cases i <;> decide

/-- When no check failed the frame was evaluable. -/
theorem evaluable_of_clear {m : ValidateMode} {len : Nat} {s : State} (h : checksOf m len s = Checks.clear) :
    evaluable s = true := by
  cases he : evaluable s with
  | true => rfl
  | false =>
    rw [checksOf_not_evaluable he, Checks.clear] at h
    simp only [Checks.mk.injEq, decide_eq_false_iff_not] at h
    simp [evaluable, h.1] at he
    omega

/-- Loading the registers either makes the outcome valid with the frame's registers, after no failure, or leaves it. -/
theorem loadRegs_cases (r : Result) (frame : List Byte) :
    (r.cause = .none ∧ loadRegs r frame = { r with valid := true, reg := payloadRegs frame }) ∨
    (r.cause ≠ .none ∧ loadRegs r frame = r) := by
  by_cases h : r.cause = .none
  · exact .inl ⟨h, if_pos h⟩
  · exact .inr ⟨h, if_neg h⟩

/-- Using the read port while the block is ready drives the word of the state and draws nothing. -/
@[simp] theorem readAt_ready {s : State} (a : Addr) (h : s.cmdReady = true) :
    readAt a s = s.setRead (readWord s a) s.draws := by simp [readAt, h]

/-- Using the read port while the block is busy drives a fresh unspecified word. -/
@[simp] theorem readAt_busy {s : State} (a : Addr) (h : s.cmdReady = false) :
    readAt a s = s.setRead (Config.busyReadWord s.draws) (s.draws + 1) := by simp [readAt, h]

/-- Whatever is driven, a use of the read port changes nothing else. -/
theorem readAt_eq (a : Addr) (s : State) : ∃ v n, readAt a s = s.setRead v n := by
  cases h : s.cmdReady
  · exact ⟨_, _, readAt_busy a h⟩
  · exact ⟨_, _, readAt_ready a h⟩

/-- A legal word runs its command. -/
theorem runWord_command {w : Word} {i : Instr} {s : State} (h : decode w = .command i) : runWord w s = exec i s := by
  simp [runWord, h]

/-- An illegal word sets ILLEGAL. -/
theorem runWord_illegal {w : Word} {e : IllegalWord} {s : State} (h : decode w = .illegal e) :
    runWord w s = .next (flagIllegal s) := by simp [runWord, h]

end Machine

end Sys2Proof
end

