-- ==== Sys2Proof/Laws/PerInstr.lean ====
section
/-! SUPPORT. Facts about every command as a term, one lemma per constructor of Instr. -/

namespace Sys2Proof.Laws

/-- The encoded word of a command is in its own row of spec/opcode_table.json: some row of the table has the command's
mnemonic and accepts the word. -/
def TableRow.Statement (i : Instr) : Prop :=
  ∃ r ∈ opcodeTable, r.mnemonic = i.opcode.mnemonic ∧ r.accepts (encode i) = true

/-- A word whose operand is a byte in [23:16] keeps only OP under the mask 0xFF00FFFF. -/
theorem word_byteA (op a : Byte) :
    Fields.word { op := op, a := a, d := 0#16 } &&& 0xFF00FFFF#32 = Fields.word { op := op, a := 0#8, d := 0#16 } := by
  refine BitVec.eq_of_getLsbD_eq fun i h => ?_
  rw [BitVec.getLsbD_and, Fields.getLsbD_word, Fields.getLsbD_word]
  interval_cases i <;> simp

/-- A word whose operand is in [15:0] keeps only OP under the mask 0xFFFF0000. -/
theorem word_halfD (op : Byte) (d : Half) :
    Fields.word { op := op, a := 0#8, d := d } &&& 0xFFFF0000#32 = Fields.word { op := op, a := 0#8, d := 0#16 } := by
  refine BitVec.eq_of_getLsbD_eq fun i h => ?_
  rw [BitVec.getLsbD_and, Fields.getLsbD_word, Fields.getLsbD_word]
  interval_cases i <;> simp

theorem TableRow.nop : TableRow.Statement .nop := ⟨⟨"NOP", 0x00000000#32, 0xFFFFFFFF#32⟩, by decide, by decide, by decide⟩

theorem TableRow.clrIllegal : TableRow.Statement .clrIllegal := ⟨⟨"CLR_ILLEGAL", 0x01000000#32, 0xFFFFFFFF#32⟩, by decide, by decide, by decide⟩

theorem TableRow.crcInit : TableRow.Statement .crcInit := ⟨⟨"CRC_INIT", 0x08000000#32, 0xFFFFFFFF#32⟩, by decide, by decide, by decide⟩

theorem TableRow.crcByte (v : Byte) : TableRow.Statement (.crcByte v) :=
  ⟨⟨"CRC_BYTE", 0x09000000#32, 0xFF00FFFF#32⟩, by decide, rfl, beq_iff_eq.mpr ((word_byteA 0x09#8 v).trans (by decide))⟩

theorem TableRow.setAddr (v : Byte) : TableRow.Statement (.setAddr v) :=
  ⟨⟨"SET_ADDR", 0x10000000#32, 0xFF00FFFF#32⟩, by decide, rfl, beq_iff_eq.mpr ((word_byteA 0x10#8 v).trans (by decide))⟩

theorem TableRow.setFunc (v : Byte) : TableRow.Statement (.setFunc v) :=
  ⟨⟨"SET_FUNC", 0x11000000#32, 0xFF00FFFF#32⟩, by decide, rfl, beq_iff_eq.mpr ((word_byteA 0x11#8 v).trans (by decide))⟩

theorem TableRow.setCount (v : Half) : TableRow.Statement (.setCount v) :=
  ⟨⟨"SET_COUNT", 0x12000000#32, 0xFFFF0000#32⟩, by decide, rfl, beq_iff_eq.mpr ((word_halfD 0x12#8 v).trans (by decide))⟩

theorem TableRow.setStart (v : Half) : TableRow.Statement (.setStart v) :=
  ⟨⟨"SET_START", 0x13000000#32, 0xFFFF0000#32⟩, by decide, rfl, beq_iff_eq.mpr ((word_halfD 0x13#8 v).trans (by decide))⟩

theorem TableRow.txClear : TableRow.Statement .txClear := ⟨⟨"TX_CLEAR", 0x20000000#32, 0xFFFFFFFF#32⟩, by decide, by decide, by decide⟩

theorem TableRow.txByte (v : Byte) : TableRow.Statement (.txByte v) :=
  ⟨⟨"TX_BYTE", 0x21000000#32, 0xFF00FFFF#32⟩, by decide, rfl, beq_iff_eq.mpr ((word_byteA 0x21#8 v).trans (by decide))⟩

theorem TableRow.txSeal : TableRow.Statement .txSeal := ⟨⟨"TX_SEAL", 0x22000000#32, 0xFFFFFFFF#32⟩, by decide, by decide, by decide⟩

theorem TableRow.txBuildRead : TableRow.Statement .txBuildRead := ⟨⟨"TX_BUILD_READ", 0x23000000#32, 0xFFFFFFFF#32⟩, by decide, by decide, by decide⟩

theorem TableRow.rxClear : TableRow.Statement .rxClear := ⟨⟨"RX_CLEAR", 0x30000000#32, 0xFFFFFFFF#32⟩, by decide, by decide, by decide⟩

theorem TableRow.rxByte (v : Byte) : TableRow.Statement (.rxByte v) :=
  ⟨⟨"RX_BYTE", 0x31000000#32, 0xFF00FFFF#32⟩, by decide, rfl, beq_iff_eq.mpr ((word_byteA 0x31#8 v).trans (by decide))⟩

theorem TableRow.validateRegs : TableRow.Statement .validateRegs := ⟨⟨"VALIDATE_REGS", 0x32000000#32, 0xFFFFFFFF#32⟩, by decide, by decide, by decide⟩

theorem TableRow.validateAck (v : Byte) : TableRow.Statement (.validateAck v) :=
  ⟨⟨"VALIDATE_ACK", 0x33000000#32, 0xFF00FFFF#32⟩, by decide, rfl, beq_iff_eq.mpr ((word_byteA 0x33#8 v).trans (by decide))⟩

theorem TableRow.timeout : TableRow.Statement .timeout := ⟨⟨"TIMEOUT", 0x34000000#32, 0xFFFFFFFF#32⟩, by decide, by decide, by decide⟩

end Sys2Proof.Laws
end

