-- ==== Sys2Proof/Tests/Slice0.lean ====
section
/-! SUPPORT. Tests: words written out from spec/30_encoding.md R102, the checks of WellFormed on ill-formed terms, one
step of every command against the vectors of spec/95_test_vectors.md, and a witness for the hypotheses of every statement
that has any. Every expected value is the spec's. -/

namespace Sys2Proof.Tests

open Sys2Proof.Machine Sys2Proof.Spec

/-- The state a step answers; reset when it stops, which no step does. -/
def after (o : Host.Outcome State Fault Refusal) : State :=
  match o with
  | .next t => t
  | .fault _ | .refused _ => State.reset

/-- The 25 bytes of V-RX-1 (95_test_vectors). -/
def vRx1 : List Byte :=
  [0xF8#8, 0x04#8, 0x14#8, 0x08#8, 0xFC#8, 0x05#8, 0xDC#8, 0x00#8, 0x00#8, 0x00#8, 0xFA#8, 0x00#8, 0x00#8] ++
  [0x03#8, 0xE8#8, 0x00#8, 0x00#8, 0x01#8, 0xF4#8, 0x00#8, 0x62#8, 0x00#8, 0x00#8, 0x2A#8, 0xEB#8]

/-- Reset with V-RX-1 received. -/
def received : State := { State.reset with rx := vRx1 }

/-- The registers of V-RX-1. -/
def vRegs : Vector Half 10 := #v[2300#16, 1500#16, 0#16, 250#16, 0#16, 1000#16, 0#16, 500#16, 98#16, 0#16]

/-- Reset with the least legal capacities and both buffers full. -/
def full : State :=
  { State.reset with caps := { rx := 25, tx := 8 }, rx := List.replicate 25 1#8, tx := List.replicate 8 1#8 }

/-- Reset with a command in progress. -/
def busy : State := { State.reset with cmdReady := false, inFlight := some { word := 0x10010000#32, waited := 0 } }

/-- A clock cycle that offers a word. -/
def offer (w : Word) : EdgeInput :=
  { pins := { rst := false, cmdValid := true, cmdData := w, rdAddr := 0#12 }, finish := false }

/-- A clock cycle that offers nothing and completes what is in progress. -/
def wait : EdgeInput :=
  { pins := { rst := false, cmdValid := false, cmdData := 0#32, rdAddr := 0#12 }, finish := true }

/-- A clock cycle with rst = 1. -/
def resetEdge : EdgeInput :=
  { pins := { rst := true, cmdValid := false, cmdData := 0#32, rdAddr := 0#12 }, finish := false }

/-! ## Decoding: the encoding patterns of R102 with operands filled in bit by bit -/

theorem test_decode_nop : decode 0b00000000_00000000_0000000000000000#32 = .command .nop := by decide

theorem test_decode_clrIllegal : decode 0b00000001_00000000_0000000000000000#32 = .command .clrIllegal := by decide

theorem test_decode_crcInit : decode 0b00001000_00000000_0000000000000000#32 = .command .crcInit := by decide

theorem test_decode_crcByte :
    decode 0b00001001_10110001_0000000000000000#32 = .command (.crcByte 0b10110001#8) := by decide

theorem test_decode_setAddr :
    decode 0b00010000_11111000_0000000000000000#32 = .command (.setAddr 0xF8#8) := by decide

theorem test_decode_setFunc :
    decode 0b00010001_01000010_0000000000000000#32 = .command (.setFunc 0x42#8) := by decide

theorem test_decode_setCount :
    decode 0b00010010_00000000_1000000000001010#32 = .command (.setCount 0x800A#16) := by decide

theorem test_decode_setStart :
    decode 0b00010011_00000000_0001001000110100#32 = .command (.setStart 0x1234#16) := by decide

theorem test_decode_txClear : decode 0b00100000_00000000_0000000000000000#32 = .command .txClear := by decide

theorem test_decode_txByte :
    decode 0b00100001_10000001_0000000000000000#32 = .command (.txByte 0x81#8) := by decide

theorem test_decode_txSeal : decode 0b00100010_00000000_0000000000000000#32 = .command .txSeal := by decide

theorem test_decode_txBuildRead : decode 0b00100011_00000000_0000000000000000#32 = .command .txBuildRead := by decide

theorem test_decode_rxClear : decode 0b00110000_00000000_0000000000000000#32 = .command .rxClear := by decide

theorem test_decode_rxByte :
    decode 0b00110001_11101011_0000000000000000#32 = .command (.rxByte 0xEB#8) := by decide

theorem test_decode_validateRegs : decode 0b00110010_00000000_0000000000000000#32 = .command .validateRegs := by decide

theorem test_decode_validateAck :
    decode 0b00110011_00000100_0000000000000000#32 = .command (.validateAck 4#8) := by decide

theorem test_decode_timeout : decode 0b00110100_00000000_0000000000000000#32 = .command .timeout := by decide

/-- V-IL-1 to V-IL-7 of 95_test_vectors section 4. -/
theorem test_decode_illegal_words :
    decode 0x02000000#32 = .illegal .unassignedOp ∧ decode 0xFFFFFFFF#32 = .illegal .unassignedOp ∧
    decode 0x35000000#32 = .illegal .unassignedOp ∧ decode 0x00010000#32 = .illegal .nonzeroA ∧
    decode 0x10010001#32 = .illegal .nonzeroD ∧ decode 0x12010000#32 = .illegal .nonzeroA ∧
    decode 0x08000001#32 = .illegal .nonzeroD := by decide

theorem test_decodeTableWord : decodeTableWord 32 0x09310000 = some (.crcByte 0x31#8) ∧
    decodeTableWord 32 0x02000000 = none := by decide

/-! ## WellFormed: each check refuses an ill-formed term -/

theorem test_aFits_refuses_nonzero_unused_A : OperandUse.aFits .unused { op := 0#8, a := 1#8, d := 0#16 } = false := by
  decide

theorem test_aFits_refuses_A_beside_D : OperandUse.aFits .halfD { op := 0x12#8, a := 1#8, d := 10#16 } = false := by
  decide

theorem test_dFits_refuses_nonzero_unused_D : OperandUse.dFits .unused { op := 8#8, a := 0#8, d := 1#16 } = false := by
  decide

theorem test_dFits_refuses_D_beside_A : OperandUse.dFits .byteA { op := 0x10#8, a := 1#8, d := 1#16 } = false := by
  decide

theorem test_admits_refuses_byte_out_of_range : OperandUse.byteA.admits (some 256) = false := by decide

theorem test_admits_refuses_half_out_of_range : OperandUse.halfD.admits (some 65536) = false := by decide

theorem test_admits_refuses_missing_operand :
    OperandUse.byteA.admits none = false ∧ OperandUse.halfD.admits none = false := by decide

theorem test_admits_refuses_unwanted_operand : OperandUse.unused.admits (some 0) = false := by decide

theorem test_wf_command : (Instr.setCount 65535#16).wf = true := by decide

/-! ## One step of each command -/

/-- V-CF-8: NOP does not clear ILLEGAL. -/
theorem test_nop : readWord (after (exec .nop { State.reset with illegal := true })) 0x000#12 = 0x00080000#32 := by decide

/-- V-CF-7. -/
theorem test_clrIllegal :
    readWord (after (exec .clrIllegal { State.reset with illegal := true })) 0x000#12 = 0x00000000#32 := by decide

/-- V-CB-6. -/
theorem test_crcInit : (after (exec .crcInit { State.reset with crc := 0x4B37#16 })).crc = 0xFFFF#16 := by decide

/-- V-CB-3. -/
theorem test_crcByte : (after (exec (.crcByte 0x01#8) State.reset)).crc = 0x807E#16 := by decide

/-- V-CB-5: the trailer's low byte fed to the CRC it belongs to. -/
theorem test_crcByte_trailer :
    (after (exec (.crcByte 0x37#8) { State.reset with crc := 0x4B37#16 })).crc = 0x004B#16 := by decide

/-- V-CF-1. -/
theorem test_setAddr : readWord (after (exec (.setAddr 0x01#8) State.reset)) 0x004#12 = 0x00000401#32 := by decide

/-- V-CF-2. -/
theorem test_setFunc : readWord (after (exec (.setFunc 0x03#8) State.reset)) 0x004#12 = 0x000003F8#32 := by decide

/-- V-CF-3. -/
theorem test_setCount : readWord (after (exec (.setCount 0xFFFF#16) State.reset)) 0x005#12 = 0x0000FFFF#32 := by decide

/-- V-CF-4. -/
theorem test_setStart : readWord (after (exec (.setStart 0x1234#16) State.reset)) 0x006#12 = 0x00001234#32 := by decide

/-- V-TX-15. -/
theorem test_txClear : (after (exec .txClear { full with txOvf := true })).tx = [] := by decide

/-- R182: a full buffer drops the byte and sets TX_OVF. -/
theorem test_txByte_overflow :
    (after (exec (.txByte 2#8) full)).tx = List.replicate 8 1#8 ∧ (after (exec (.txByte 2#8) full)).txOvf = true := by
  decide

/-- V-TX-9, the sealing of ACK-42. -/
theorem test_txSeal :
    (after (exec .txSeal { State.reset with tx := [0xF8#8, 0x42#8] })).tx = [0xF8#8, 0x42#8, 0xC2#8, 0x41#8] := by decide

/-- R183: with one byte of room nothing is appended. -/
theorem test_txSeal_one_byte_left :
    (after (exec .txSeal { full with tx := List.replicate 7 1#8 })).tx = List.replicate 7 1#8 := by decide

/-- V-TX-4. -/
theorem test_txBuildRead :
    (after (exec .txBuildRead { State.reset with start := 0x1234#16, expCount := 0xFFFF#16 })).tx =
      [0xF8#8, 0x04#8, 0x12#8, 0x34#8, 0xFF#8, 0xFF#8, 0xA1#8, 0x65#8] := by decide

/-- V-RC-2: RX_CLEAR clears the recorded outcome. -/
theorem test_rxClear : (after (exec .rxClear (after (exec .validateRegs received)))).result.valid = false := by decide

/-- V-RX-18: a byte for a full buffer sets RX_OVF. -/
theorem test_rxByte_overflow :
    (after (exec (.rxByte 2#8) full)).rx.length = 25 ∧ (after (exec (.rxByte 2#8) full)).rxOvf = true := by decide

/-- V-RC-1: a later byte clears the recorded outcome. -/
theorem test_rxByte_clears : readWord (after (exec (.rxByte 0#8) (after (exec .validateRegs received)))) 0x000#12 = 0#32 := by
  decide

/-- V-RX-1. -/
theorem test_validateRegs :
    (after (exec .validateRegs received)).result.reg = vRegs ∧
    readWord (after (exec .validateRegs received)) 0x000#12 = 0x00000003#32 := by decide +kernel

/-- V-RX-9: four bytes, an exception form without its code. -/
theorem test_validateRegs_exception :
    readWord (after (exec .validateRegs { State.reset with rx := [0xF8#8, 0x84#8, 0x42#8, 0x13#8] })) 0x000#12 =
      0x0000005A#32 := by decide

/-- V-AK-1. -/
theorem test_validateAck :
    readWord (after (exec (.validateAck 4#8) { State.reset with
      expFunc := 0x42#8, rx := [0xF8#8, 0x42#8, 0xC2#8, 0x41#8] })) 0x000#12 = 0x00010002#32 := by decide

/-- V-AK-5. -/
theorem test_validateAck_exception :
    readWord (after (exec (.validateAck 4#8) { State.reset with
      expFunc := 0x42#8, rx := [0xF8#8, 0xC2#8, 0x01#8, 0x60#8, 0x91#8] })) 0x000#12 = 0x0001015A#32 := by decide

/-- V-TO-2. -/
theorem test_timeout :
    readWord (after (exec .timeout (after (exec .validateRegs received)))) 0x000#12 = 0x00000016#32 := by decide

/-! ## The CRC, the decoder, the read port, the ports and the assembler -/

/-- V-CRC-1, the published check value of CRC-16/MODBUS. -/
theorem test_crc16_check_value :
    crc16 [0x31#8, 0x32#8, 0x33#8, 0x34#8, 0x35#8, 0x36#8, 0x37#8, 0x38#8, 0x39#8] = 0x4B37#16 := by decide

/-- V-DE-1, the source's worked example: Q and R of the current. -/
theorem test_measure_current :
    Quantity.current.quotient vRegs = 1#32 ∧ Quantity.current.remainder vRegs = 500#32 ∧
    Quantity.current.fraction vRegs = [5, 0, 0] := by decide

/-- V-DE-3: the high register above the low one. -/
theorem test_measure_high_word :
    Quantity.current.mantissa #v[0#16, 0#16, 1#16, 0#16, 0#16, 0#16, 0#16, 0#16, 0#16, 0#16] = 0x10000#32 := by decide

/-- 95_test_vectors section 8. -/
theorem test_readPort_at_reset :
    readWord State.reset 0x002#12 = 0x0000FFFF#32 ∧ readWord State.reset 0x004#12 = 0x000004F8#32 ∧
    readWord State.reset 0x009#12 = 0x01000100#32 ∧ readWord State.reset 0x027#12 = 1000#32 ∧
    readWord State.reset 0x3FF#12 = 0x00004040#32 ∧ readWord State.reset 0xFFF#12 = 0#32 := by decide

/-- The next step runs exactly the word placed. -/
theorem test_withFetchWord_step :
    (after (step (State.reset.withFetchWord 32 0x10010000))).expAddr = 0x01#8 ∧
    (after (step (State.reset.withFetchWord 32 0x0A000000))).illegal = true := by decide

/-- 20_memory R71, R72: acceptance at one edge, completion at the next. -/
theorem test_clockEdge_accept_complete :
    (after (runEdges [offer 0x10010000#32] State.reset)).expAddr = 0xF8#8 ∧
    (after (runEdges [offer 0x10010000#32] State.reset)).cmdReady = false ∧
    (after (runEdges [offer 0x10010000#32, wait] State.reset)).expAddr = 0x01#8 ∧
    (after (runEdges [offer 0x10010000#32, wait] State.reset)).cmdReady = true := by decide

/-- 70_reset_and_hazards R340: the command in progress is abandoned. -/
theorem test_clockEdge_reset_abandons :
    (after (runEdges [offer 0x10010000#32, resetEdge, wait, wait] State.reset)).expAddr = 0xF8#8 := by decide

/-- 30_encoding R113: the worked encodings, either case, a comment. -/
theorem test_assembleLine :
    assembleLine "CRC_BYTE 0x31".toList = .commands [.crcByte 0x31#8] ∧
    assembleLine "set_count 10 ; registers".toList = .commands [.setCount 10#16] ∧
    assembleLine "TX_BYTE 256".toList = .error .outOfRange ∧
    assembleLine "NOP 1".toList = .error .operandCount := by decide

/-- 30_encoding R114. -/
theorem test_assemblePseudo :
    assembleLine "TX_CMD 0xF8, 0x42".toList = .commands [.txClear, .txByte 0xF8#8, .txByte 0x42#8, .txSeal] := by decide

/-! ## Witnesses: concrete states and operands that meet the hypotheses of the statements -/

theorem witness_ResetEdgeAbandonsCommandInProgress : resetEdge.pins.rst = true ∧ wait.pins.rst = false := by decide

theorem witness_ResetActionGivesTableValues : { received with host := [.reset] }.host = .reset :: [] := by decide

theorem witness_DecodeEncodeRoundTrip : (Instr.crcByte 0x31#8).wf = true := by decide

theorem witness_EncodeDecodeRoundTrip : decode 0x3100FF00#32 = .illegal .nonzeroD ∧
    decode 0x31FF0000#32 = .command (.rxByte 0xFF#8) := by decide

theorem witness_EveryWordIsOneRowOrIllegal :
    decode 0x34000000#32 = .command .timeout ∧ decode 0x35000000#32 = .illegal .unassignedOp := by decide

theorem witness_AssemblerChecksImmediateRange :
    Opcode.use .rxByte = .byteA ∧ Opcode.use .setStart = .halfD ∧ Opcode.use .nop = .unused ∧
    255 ≤ 255 ∧ 255 < 256 ∧ 65535 ≤ 65535 ∧ 65535 < 65536 := by decide

theorem witness_StepRunsDecodedCommand :
    { State.reset with host := [.command 0x09310000#32] }.cmdReady = true ∧
    decode 0x09310000#32 = .command (.crcByte 0x31#8) := by decide

/-- A row that runs, a row with a nonzero unused A, a row with a nonzero unused D, and an OP of no row. -/
theorem witness_CommandWordsFollowOpcodeMap :
    { State.reset with host := [.command ((0x09#8 ++ 0x31#8) ++ 0#16)] }.cmdReady = true ∧
    opMap.map OpRow.op = Opcode.all.map Opcode.code ∧
    opMap.map OpRow.zeroA = Opcode.all.map (fun o => o.use != .byteA) ∧
    opMap.map OpRow.zeroD = Opcode.all.map (fun o => o.use != .halfD) ∧
    (∀ row ∈ opMap.map OpRow.op, row ≠ 0x35#8) := by decide

theorem witness_UnreadyBlockCompletesFirst :
    busy.cmdReady = false ∧ busy.host = [] ∧ busy.inFlight = some { word := 0x10010000#32, waited := 0 } ∧
    { State.reset with cmdReady := false }.inFlight = none := by decide

theorem witness_IdleBlockHoldsState : received.cmdReady = true ∧ received.host = [] := by decide

theorem witness_AcceptanceNeedsHandshake :
    received.portFits ∧ received.cmdReady = true ∧ (offer 0#32).pins.cmdValid = true ∧
    (offer 0#32).pins.rst = false ∧ wait.pins.cmdValid = false ∧ resetEdge.pins.rst = true :=
  ⟨trivial, by decide⟩

theorem witness_AcceptanceNeedsHandshake_busy : busy.portFits ∧ busy.cmdReady = false :=
  ⟨⟨rfl, Nat.succ_pos _⟩, rfl⟩

theorem witness_AcceptedCommandCompletesAtomically :
    accepts (offer 0x32000000#32) received = true ∧
    (∀ x ∈ List.replicate Config.cmdLatencyMax wait, x.pins.rst = false) ∧
    (List.replicate Config.cmdLatencyMax wait).length = Config.cmdLatencyMax := by
  refine ⟨by decide, fun x hx => ?_, by simp⟩
  rw [List.eq_of_mem_replicate hx]
  decide

theorem witness_ClockTraceRefinesAtomicCommands :
    (∀ x ∈ [offer 0x32000000#32, wait], x.pins.rst = false) ∧ received.portFits ∧
    ∃ t, runEdges [offer 0x32000000#32, wait] received = .next t ∧ t.result.valid = true :=
  ⟨by decide, trivial, _, rfl, by decide +kernel⟩

theorem witness_ControlWordsFollowMap : full.buffersFit ∧ Config.legalCaps full.caps := by decide

theorem witness_ReservedReadsAreZero :
    { State.reset with host := [.read 0x00A#12] }.cmdReady = true ∧
    readWord received 0x00A#12 = 0#32 ∧ readWord received 0x00F#12 = 0#32 ∧ readWord received 0x01A#12 = 0#32 ∧
    readWord received 0x01F#12 = 0#32 ∧ readWord received 0x03C#12 = 0#32 ∧ readWord received 0x0FF#12 = 0#32 ∧
    readWord received 0x400#12 = 0#32 ∧ readWord received 0xFFF#12 = 0#32 := by decide

theorem witness_ReadsHaveNoSideEffect : { received with host := [.read 0x100#12] }.cmdReady = true := by decide

theorem witness_BusyReadDrawsFreeValue : { busy with host := [.read 0x100#12] }.cmdReady = false := by decide

theorem witness_ReadPortShowsExactlyTheState :
    received.buffersFit ∧ full.buffersFit ∧ Config.legalCaps received.caps ∧ Config.legalCaps full.caps := by decide

/-- The first byte, the last byte of the body, and both bytes of the trailer. -/
theorem witness_SingleBitFlipBreaksTrailer :
    (∀ i ∈ [0, 22, 23, 24], i < (vRx1.take 23).length + 2) ∧ 0 < 8 ∧ 7 < 8 ∧ sealed (vRx1.take 23) = vRx1 := by
  decide +kernel

theorem witness_TxByteAppendsOrOverflows :
    { full with tx := List.replicate 7 1#8 }.tx.length < full.caps.tx ∧ full.caps.tx ≤ full.tx.length := by decide

theorem witness_TxSealAppendsTrailerOrOverflows :
    { full with tx := List.replicate 6 1#8 }.tx.length + 2 ≤ full.caps.tx ∧
    full.caps.tx < { full with tx := List.replicate 7 1#8 }.tx.length + 2 := by decide

theorem witness_BuildReadEqualsByteSequence : 8 ≤ full.caps.tx := by decide

theorem witness_TxFrameBuildsSealedFrame : (List.replicate 6 1#8).length + 2 ≤ full.caps.tx := by decide

theorem witness_RxByteAppendsOrOverflows :
    { full with rx := List.replicate 24 1#8 }.rx.length < full.caps.rx ∧ full.caps.rx ≤ full.rx.length := by decide

/-- Both validations, each with a frame that is evaluable and one that is not. -/
theorem witness_ValidationRecordsOutcome :
    full.rxOvf = false ∧ 4 ≤ full.rx.length ∧ State.reset.rx.length < 4 ∧ { full with rxOvf := true }.rxOvf = true ∧
    (∃ t, exec .validateRegs received = .next t ∧ t.result.valid = true) ∧
    ∃ t, exec .validateRegs full = .next t ∧ t.result.valid = false :=
  ⟨by decide, by decide, by decide, by decide, ⟨_, rfl, by decide +kernel⟩, _, rfl, by decide +kernel⟩

/-- EXC-84 (95_test_vectors). -/
theorem witness_DeviceExceptionIsReported :
    { State.reset with rx := [0xF8#8, 0x84#8, 0x01#8, 0x52#8, 0xF1#8] }.rx =
      sealed [State.reset.expAddr, State.reset.expFunc ||| 0x80#8, 0x01#8] ∧
    State.reset.rxOvf = false ∧ State.reset.expFunc.getLsbD 7 = false ∧
    (∃ t, exec .validateRegs { State.reset with rx := [0xF8#8, 0x84#8, 0x01#8, 0x52#8, 0xF1#8] } = .next t) ∧
    ∃ t, exec (.validateAck 4#8) { State.reset with rx := [0xF8#8, 0x84#8, 0x01#8, 0x52#8, 0xF1#8] } = .next t :=
  ⟨by decide, by decide, by decide, ⟨_, rfl⟩, _, rfl⟩

theorem witness_ResponseDecodesToItsRegisters :
    Config.legalCaps State.reset.caps ∧ State.reset.expCount = 10#16 ∧ responseFrame 0xF8#8 0x04#8 vRegs = vRx1 := by
  decide +kernel

/-- Each case of the cause: bytes 0 and 1 (bit 7 and another bit), byte 2, byte 3 and the last byte. -/
theorem witness_CorruptedFrameIsRejected :
    ∃ t, exec .validateRegs received = .next t ∧ t.result.valid = true ∧
      (∀ i ∈ [0, 1, 2, 3, 24], i < received.rx.length) ∧ 0 < 8 ∧ 7 < 8 ∧ received.expFunc.getLsbD 7 = false :=
  ⟨_, rfl, by decide +kernel⟩

/-- The other case of byte 1: a frame that passes under a function code with bit 7 set. -/
theorem witness_CorruptedFrameIsRejected_high_function :
    ∃ t, exec .validateRegs { received with expFunc := 0x84#8, rx := responseFrame 0xF8#8 0x84#8 vRegs } = .next t ∧
      t.result.valid = true ∧ 1 < (responseFrame 0xF8#8 0x84#8 vRegs).length ∧ (0x84#8).getLsbD 7 = true :=
  ⟨_, rfl, by decide +kernel⟩

theorem witness_ValidationIsIdempotent :
    (∃ t, exec .validateRegs received = .next t) ∧ ∃ t, exec (.validateAck 25#8) received = .next t :=
  ⟨⟨_, rfl⟩, _, rfl⟩

theorem witness_SentinelWordsReadZero : received.result.sentinel ∧ received.result.valid = false := by decide

/-- A state with a validated measurement and a command to come meets the invariant. -/
theorem witness_StepKeepsInvariant :
    { after (exec .validateRegs received) with host := [.command 0x30000000#32] }.Inv ∧
    ∃ t, step { after (exec .validateRegs received) with host := [.command 0x30000000#32] } = .next t :=
  ⟨⟨by decide +kernel, by decide +kernel, by decide +kernel, by decide +kernel, by decide +kernel, trivial⟩, _, rfl⟩

theorem witness_ClockEdgeKeepsInvariant :
    (after (exec .validateRegs received)).Inv ∧
    ∃ t, clockEdge (offer 0x30000000#32) (after (exec .validateRegs received)) = .next t :=
  ⟨⟨by decide +kernel, by decide +kernel, by decide +kernel, by decide +kernel, by decide +kernel, trivial⟩, _, rfl⟩

theorem witness_NoMeasurementMeansNoRegisters :
    received.result.sentinel ∧ ∃ t, step received = .next t := ⟨by decide, _, rfl⟩

theorem witness_CommandsWriteOnlyTheirRow :
    (∃ t, exec (.txByte 1#8) full = .next t) ∧ (∃ t, exec .txSeal full = .next t) ∧
    (∃ t, exec (.rxByte 1#8) full = .next t) ∧ decode 0x02000000#32 = .illegal .unassignedOp :=
  ⟨⟨_, rfl⟩, ⟨_, rfl⟩, ⟨_, rfl⟩, by decide⟩

theorem witness_UntouchedAddressesReadAsBefore :
    (∃ t, exec (.txByte 1#8) State.reset = .next t) ∧ ¬ touches (.txByte 1#8) State.reset 0x201 :=
  ⟨⟨_, rfl⟩, by simp [touches, State.reset]⟩

theorem witness_StickyBitsChangeOnlyByTheirCommands :
    (∃ t, exec .rxClear { full with rxOvf := true } = .next t ∧ t.rxOvf = false) ∧
    (∃ t, exec (.rxByte 1#8) full = .next t ∧ full.rxOvf = false ∧ t.rxOvf = true) ∧
    (∃ t, exec .txBuildRead { full with txOvf := true } = .next t ∧ t.txOvf = false) ∧
    (∃ t, exec (.txByte 1#8) full = .next t ∧ full.txOvf = false ∧ t.txOvf = true) ∧
    (∃ t, exec .txSeal full = .next t ∧ t.txOvf = true) ∧
    (∃ t, exec .clrIllegal { full with illegal := true } = .next t ∧ t.illegal = false) :=
  ⟨⟨_, rfl, by decide⟩, ⟨_, rfl, by decide⟩, ⟨_, rfl, by decide⟩, ⟨_, rfl, by decide⟩, ⟨_, rfl, by decide⟩,
    ⟨_, rfl, by decide⟩⟩

end Sys2Proof.Tests
end

section
/-! PROOFS. What the cleared result group holds, and the reset table (spec/10_state.md R46). -/

namespace Sys2Proof.Machine

@[simp] theorem Checks.bits_clear : Checks.clear.bits = 0#9 := rfl

theorem Result.cleared_reg (i : Fin 10) : Result.cleared.reg[i] = 0#16 :=
  Vector.getElem_replicate i.isLt

end Sys2Proof.Machine

namespace Sys2Proof.Proofs

open Sys2Proof.Machine Sys2Proof.Spec

/-- Settles O1: the fields outside the result group are the literals of State.reset; its result group is Result.cleared,
whose CHECKS bits and registers are the two lemmas above. -/
theorem resetStateHasTableValues : Obligations.ResetStateHasTableValues :=
  ⟨rfl, rfl, rfl, rfl, rfl, rfl, rfl, rfl, rfl, rfl, rfl, rfl, rfl, rfl, rfl, rfl,
    Checks.bits_clear, rfl, rfl, Result.cleared_reg⟩

end Sys2Proof.Proofs
end

section
/-! PROOFS. The port fields (the command port, the host's actions and the read port) apart from the fields of
spec/10_state.md R31: a command neither sees the port fields nor writes them (spec/20_memory.md R72, R77). -/

namespace Sys2Proof.Machine

open Sys2Proof.Spec

/-- The stored fields of `s` with the port fields of `p`. -/
def State.withPortsOf (s p : State) : State :=
  { s with cmdReady := p.cmdReady, inFlight := p.inFlight, host := p.host, rdData := p.rdData, draws := p.draws }

theorem State.sameArch_withPortsOf (s p : State) : sameArch s (s.withPortsOf p) :=
  ⟨rfl, rfl, rfl, rfl, rfl, rfl, rfl, rfl, rfl, rfl, rfl, rfl⟩

/-- Two states with the same stored fields differ in their port fields alone. -/
theorem sameArch_iff {s t : State} : sameArch s t ↔ t = s.withPortsOf t := by
  constructor
  · intro h
    cases s
    cases t
    simp only [sameArch] at h
    simp [State.withPortsOf, h]
  · intro h
    rw [h]
    exact s.sameArch_withPortsOf t

theorem sameArch_refl (s : State) : sameArch s s := s.sameArch_withPortsOf s

theorem sameArch_symm {s t : State} (h : sameArch s t) : sameArch t s := by
  rw [sameArch_iff.mp h]
  exact (s.withPortsOf t).sameArch_withPortsOf s

theorem sameArch_trans {s t u : State} (hst : sameArch s t) (htu : sameArch t u) : sameArch s u := by
  have ht := sameArch_iff.mp hst
  have hu := sameArch_iff.mp htu
  rw [ht] at hu
  exact sameArch_iff.mpr hu

theorem sameArch_setPort (s : State) (ready : Bool) (f : Option InFlight) : sameArch s (s.setPort ready f) :=
  s.sameArch_withPortsOf (s.setPort ready f)

theorem sameArch_readAt (a : Addr) (s : State) : sameArch s (readAt a s) := by
  obtain ⟨v, n, e⟩ := readAt_eq a s
  rw [e]
  exact s.sameArch_withPortsOf (s.setRead v n)

theorem txAppend_withPortsOf (bs : List Byte) (s p : State) :
    txAppend bs (s.withPortsOf p) = (txAppend bs s).withPortsOf p := by
  rcases txAppend_cases bs s with ⟨h, e⟩ | ⟨h, e⟩
  · rw [e]
    exact if_pos h
  · rw [e]
    exact if_neg (Nat.not_le.mpr h)

theorem rxAppend_withPortsOf (b : Byte) (s p : State) :
    rxAppend b (s.withPortsOf p) = (rxAppend b s).withPortsOf p := by
  rcases rxAppend_cases b s with ⟨h, e⟩ | ⟨h, e⟩
  · rw [e]
    exact if_pos h
  · rw [e]
    exact if_neg (Nat.not_lt.mpr h)

/-- A command completes, and with other port fields it leaves the same stored fields and the port fields as they were. -/
theorem exec_withPortsOf (i : Instr) (s p : State) :
    ∃ u, exec i s = .next u ∧ exec i (s.withPortsOf p) = .next (u.withPortsOf p) := by
  cases i with
  | txByte b => exact ⟨_, rfl, congrArg _ (txAppend_withPortsOf [b] s p)⟩
  | txSeal => exact ⟨_, rfl, congrArg _ (txAppend_withPortsOf (trailer s.tx) s p)⟩
  | rxByte b => exact ⟨_, rfl, congrArg (fun r => Host.Outcome.next (clearResult r)) (rxAppend_withPortsOf b s p)⟩
  | _ => exact ⟨_, rfl, rfl⟩

theorem runWord_withPortsOf (w : Word) (s p : State) :
    ∃ u, runWord w s = .next u ∧ runWord w (s.withPortsOf p) = .next (u.withPortsOf p) := by
  cases h : decode w with
  | command i =>
    rw [runWord_command h, runWord_command h]
    exact exec_withPortsOf i s p
  | illegal e => exact ⟨_, runWord_illegal h, runWord_illegal h⟩

/-- A command word completes and leaves the port fields as they were. -/
theorem runWord_completes (w : Word) (s : State) : ∃ u : State, runWord w s = .next (u.withPortsOf s) := by
  obtain ⟨u, -, h⟩ := runWord_withPortsOf w s s
  exact ⟨u, h⟩

/-- A command word sees only the stored fields. -/
theorem runWord_sameArch {w : Word} {s t u : State} (h : sameArch s t) (hu : runWord w s = .next u) :
    ∃ v, runWord w t = .next v ∧ sameArch u v := by
  obtain ⟨u', hs, ht⟩ := runWord_withPortsOf w s t
  rw [← sameArch_iff.mp h] at ht
  obtain rfl : u = u' := Host.Outcome.next.inj (hu.symm.trans hs)
  exact ⟨_, ht, u.sameArch_withPortsOf t⟩

theorem readWord_withPortsOf (s p : State) (a : Addr) : readWord (s.withPortsOf p) a = readWord s a := rfl

/-- The words of the read space depend on the stored fields alone (20_memory R74). -/
theorem readWord_sameArch {s t : State} (h : sameArch s t) (a : Addr) : readWord t a = readWord s a := by
  rw [sameArch_iff.mp h, readWord_withPortsOf]

end Sys2Proof.Machine
end

section
/-! PROOFS. A clock trace is its completed commands run one after another (spec/20_memory.md R72, R73): every edge
without reset refines the atomic words, and such refinements compose. -/

namespace Sys2Proof.Machine

open Sys2Proof.Spec

theorem runWords_cons {w : Word} {s t : State} (h : runWord w s = .next t) (ws : List Word) :
    runWords (w :: ws) s = runWords ws t := by simp [runWords, h]

theorem runWords_append {ws vs : List Word} {s t : State} (h : runWords ws s = .next t) :
    runWords (ws ++ vs) s = runWords vs t := by
  induction ws generalizing s with
  | nil =>
    obtain rfl : s = t := Host.Outcome.next.inj h
    rfl
  | cons w ws ih =>
    obtain ⟨u, hu⟩ := runWord_completes w s
    rw [runWords_cons hu] at h
    rw [List.cons_append, runWords_cons hu, ih h]

/-- A sequence of command words sees only the stored fields. -/
theorem runWords_sameArch {ws : List Word} {s t u : State} (h : sameArch s t) (hu : runWords ws s = .next u) :
    ∃ v, runWords ws t = .next v ∧ sameArch u v := by
  induction ws generalizing s t with
  | nil =>
    obtain rfl : s = u := Host.Outcome.next.inj hu
    exact ⟨t, rfl, h⟩
  | cons w ws ih =>
    obtain ⟨m, hm⟩ := runWord_completes w s
    obtain ⟨m', hm', hmm'⟩ := runWord_sameArch h hm
    rw [runWords_cons hm] at hu
    rw [runWords_cons hm']
    exact ih hmm' hu

theorem runEdges_cons {e : EdgeInput} {s m : State} (h : clockEdge e s = .next m) (es : List EdgeInput) :
    runEdges (e :: es) s = runEdges es m := by simp [runEdges, h]

theorem acceptedWords_cons {e : EdgeInput} {s m : State} (h : clockEdge e s = .next m) (es : List EdgeInput) :
    acceptedWords (e :: es) s = (if accepts e s then [e.pins.cmdData] else []) ++ acceptedWords es m := by
  simp [acceptedWords, h]

theorem State.portFits_of_none {s : State} (h : s.inFlight = none) : s.portFits := by simp [State.portFits, h]

/-- A ready block that meets portFits has no command in progress. -/
theorem State.inFlight_of_ready {s : State} (hp : s.portFits) (hr : s.cmdReady = true) : s.inFlight = none := by
  cases hf : s.inFlight with
  | none => rfl
  | some f => simp [State.portFits, hf, hr] at hp

theorem pendingWords_none {s : State} (h : s.inFlight = none) : pendingWords s = [] := by simp [pendingWords, h]

theorem pendingWords_some {s : State} {f : InFlight} (h : s.inFlight = some f) : pendingWords s = [f.word] := by
  simp [pendingWords, h]

@[simp] theorem pendingWords_setPort_none (s : State) (ready : Bool) : pendingWords (s.setPort ready none) = [] := rfl

@[simp] theorem pendingWords_setPort_some (s : State) (ready : Bool) (f : InFlight) :
    pendingWords (s.setPort ready (some f)) = [f.word] := rfl

@[simp] theorem pendingWords_withPortsOf (s p : State) : pendingWords (s.withPortsOf p) = pendingWords p := rfl

@[simp] theorem readAt_inFlight (a : Addr) (s : State) : (readAt a s).inFlight = s.inFlight := by
  obtain ⟨v, n, e⟩ := readAt_eq a s
  rw [e, State.setRead_inFlight]

/-- From `s` to `t`, with the words `acc` accepted on the way: the words in progress and accepted are the completed ones
and then those still in progress, and `t` has the stored fields the completed ones leave, run atomically from `s`. -/
def RefinesAtomic (acc : List Word) (s t : State) : Prop :=
  ∃ completed u, pendingWords s ++ acc = completed ++ pendingWords t ∧
    runWords completed s = .next u ∧ sameArch u t

/-- No command completes: the stored fields stay, and what was accepted is in progress. -/
theorem RefinesAtomic.of_sameArch {acc : List Word} {s t : State} (hw : pendingWords s ++ acc = pendingWords t)
    (h : sameArch s t) : RefinesAtomic acc s t := ⟨[], s, hw, rfl, h⟩

theorem RefinesAtomic.trans {acc acc' : List Word} {s m t : State} (hsm : RefinesAtomic acc s m)
    (hmt : RefinesAtomic acc' m t) : RefinesAtomic (acc ++ acc') s t := by
  obtain ⟨c, u, hw, hu, hum⟩ := hsm
  obtain ⟨c', v, hw', hv, hvt⟩ := hmt
  obtain ⟨v', hv', hvv'⟩ := runWords_sameArch (sameArch_symm hum) hv
  refine ⟨c ++ c', v', ?_, (runWords_append hu).trans hv', sameArch_trans (sameArch_symm hvv') hvt⟩
  rw [← List.append_assoc, hw, List.append_assoc, hw', List.append_assoc]

/-- What an edge without reset can do: accept a word, idle, become ready after reset, complete the command in progress,
or let it wait (20_memory R71, R72). -/
theorem clockEdge_cases {e : EdgeInput} (s : State) (hrst : e.pins.rst = false) :
    (s.cmdReady = true ∧ e.pins.cmdValid = true ∧
      clockEdge e s = .next ((readAt e.pins.rdAddr s).setPort false (some { word := e.pins.cmdData, waited := 0 }))) ∨
    (s.cmdReady = true ∧ e.pins.cmdValid = false ∧ clockEdge e s = .next (readAt e.pins.rdAddr s)) ∨
    (s.cmdReady = false ∧ s.inFlight = none ∧
      clockEdge e s = .next ((readAt e.pins.rdAddr s).setPort true none)) ∨
    (s.cmdReady = false ∧ ∃ f, s.inFlight = some f ∧ (e.finish = true ∨ Config.cmdLatencyMax ≤ f.waited + 1) ∧
      clockEdge e s = runWord f.word ((readAt e.pins.rdAddr s).setPort true none)) ∨
    (s.cmdReady = false ∧ ∃ f, s.inFlight = some f ∧ e.finish = false ∧ f.waited + 1 < Config.cmdLatencyMax ∧
      clockEdge e s = .next ((readAt e.pins.rdAddr s).setPort false (some { f with waited := f.waited + 1 }))) := by
  cases hr : s.cmdReady with
  | true =>
    cases hv : e.pins.cmdValid with
    | true => simp [clockEdge, hrst, edgeRun, hr, hv]
    | false => simp [clockEdge, hrst, edgeRun, hr, hv]
  | false =>
    cases hf : s.inFlight with
    | none => simp [clockEdge, hrst, edgeRun, hr, hf]
    | some f =>
      by_cases hfin : e.finish = true ∨ Config.cmdLatencyMax ≤ f.waited + 1
      · simp [clockEdge, hrst, edgeRun, becomeReady, hr, hf, hfin]
      · obtain ⟨hfinish, hwaited⟩ : e.finish = false ∧ f.waited + 1 < Config.cmdLatencyMax := by simpa using hfin
        simp [clockEdge, hrst, edgeRun, hr, hf, hfinish, hwaited]

/-- An edge without reset refines the words it accepts, and the port stays well-formed. -/
theorem clockEdge_refinesAtomic {e : EdgeInput} {s : State} (hrst : e.pins.rst = false) (hp : s.portFits) :
    ∃ m, clockEdge e s = .next m ∧ m.portFits ∧
      RefinesAtomic (if accepts e s then [e.pins.cmdData] else []) s m := by
  have hread := sameArch_readAt e.pins.rdAddr s
  have hport (ready f) : sameArch s ((readAt e.pins.rdAddr s).setPort ready f) :=
    sameArch_trans hread (sameArch_setPort _ ready f)
  rcases clockEdge_cases s hrst with ⟨hr, hv, he⟩ | ⟨hr, hv, he⟩ | ⟨hr, hf, he⟩ | ⟨hr, f, hf, -, he⟩ |
    ⟨hr, f, hf, -, hw, he⟩
  · have hf := State.inFlight_of_ready hp hr
    refine ⟨_, he, ⟨rfl, Nat.succ_pos _⟩, .of_sameArch ?_ (hport _ _)⟩
    simp [pendingWords_none hf, accepts, hrst, hv, hr]
  · have hf := State.inFlight_of_ready hp hr
    have hf' := (readAt_inFlight e.pins.rdAddr s).trans hf
    refine ⟨_, he, State.portFits_of_none hf', .of_sameArch ?_ hread⟩
    simp [pendingWords_none hf, pendingWords_none hf', accepts, hv]
  · refine ⟨_, he, trivial, .of_sameArch ?_ (hport _ _)⟩
    simp [pendingWords_none hf, accepts, hr]
  · obtain ⟨u, hu⟩ := runWord_completes f.word ((readAt e.pins.rdAddr s).setPort true none)
    obtain ⟨v, hv, huv⟩ := runWord_sameArch (sameArch_symm (hport true none)) hu
    refine ⟨_, he.trans hu, trivial, [f.word], v, ?_, runWords_cons hv [], sameArch_symm huv⟩
    simp [pendingWords_some hf, accepts, hr]
  · refine ⟨_, he, ⟨rfl, hw⟩, .of_sameArch ?_ (hport _ _)⟩
    simp [pendingWords_some hf, accepts, hr]

theorem runEdges_refinesAtomic {es : List EdgeInput} {s t : State} (hrst : ∀ x ∈ es, x.pins.rst = false)
    (hp : s.portFits) (h : runEdges es s = .next t) : RefinesAtomic (acceptedWords es s) s t := by
  induction es generalizing s with
  | nil =>
    obtain rfl : s = t := Host.Outcome.next.inj h
    exact .of_sameArch (List.append_nil _) (sameArch_refl s)
  | cons e es ih =>
    obtain ⟨hrst_e, hrst_es⟩ := List.forall_mem_cons.mp hrst
    obtain ⟨m, hm, hpm, hsm⟩ := clockEdge_refinesAtomic hrst_e hp
    rw [runEdges_cons hm] at h
    rw [acceptedWords_cons hm]
    exact hsm.trans (ih hrst_es hpm h)

end Sys2Proof.Machine

namespace Sys2Proof.Proofs

open Sys2Proof.Machine Sys2Proof.Spec

/-- Settles O17, by the refinement over the trace's edges; the port fields of the state the words start from do not
matter, since command words see only the stored fields. -/
theorem clockTraceRefinesAtomicCommands : Obligations.ClockTraceRefinesAtomicCommands := by
  intro es s t hrst hp h
  obtain ⟨completed, u, hw, hu, hut⟩ := runEdges_refinesAtomic hrst hp h
  obtain ⟨u', hu', huu'⟩ := runWords_sameArch (sameArch_setPort s true none) hu
  exact ⟨completed, u', hw, hu', sameArch_trans (sameArch_symm huu') hut⟩

end Sys2Proof.Proofs
end

section
/-! PROOFS. The reserved addresses and fields of the read space, and reads through the port (spec/20_memory.md R75 to
R77). -/

namespace Sys2Proof.Machine

open Sys2Proof.Spec

/-- The addresses of 20_memory R75 that no row of the map holds. -/
def reservedAddr (n : Nat) : Prop :=
  (0x00A ≤ n ∧ n ≤ 0x00F) ∨ (0x01A ≤ n ∧ n ≤ 0x01F) ∨ (0x03C ≤ n ∧ n ≤ 0x0FF) ∨ 0x400 ≤ n

theorem readWordNat_reserved (s : State) {n : Nat} (h : reservedAddr n) : readWordNat s n = 0#32 := by
  unfold reservedAddr at h
  rcases h with h | h | h | h <;> simp (disch := omega) only [readWordNat, if_neg, if_pos]

theorem readWordNat_reg (s : State) {i : Nat} (h : i < 10) :
    readWordNat s (0x010 + i) = zext32 s.result.reg[i] := by
  simp (disch := omega) only [readWordNat, if_neg, if_pos, Nat.add_sub_cancel_left, Vector.getElem?_eq_getElem,
    Option.getD_some]

theorem readWordNat_rx (s : State) {i : Nat} (h : i < 256) : readWordNat s (0x100 + i) = byteWord (byteAt s.rx i) := by
  simp (disch := omega) only [readWordNat, if_neg, if_pos, Nat.add_sub_cancel_left]

theorem readWordNat_tx (s : State) {i : Nat} (h : i < 256) : readWordNat s (0x200 + i) = byteWord (byteAt s.tx i) := by
  simp (disch := omega) only [readWordNat, if_neg, if_pos, Nat.add_sub_cancel_left]

theorem readWordNat_table (s : State) {i : Nat} (h : i < 256) :
    readWordNat s (0x300 + i) = zext32 (crcTable (BitVec.ofNat 8 i)) := by
  simp (disch := omega) only [readWordNat, if_neg, if_pos, Nat.add_sub_cancel_left]

/-- An address of the read space reads the word of that number. -/
theorem readNat_eq (s : State) {n : Nat} (h : n < 4096) : readNat s n = (readWordNat s n).toNat := by
  rw [readNat, readWord, BitVec.toNat_ofNat, Nat.mod_eq_of_lt h]

/-- A narrower value widened to a word keeps its bound: the high field is reserved and 0 (20_memory R76). -/
theorem toNat_setWidth_word_lt {w : Nat} (v : BitVec w) : (v.setWidth 32).toNat < 2 ^ w := by
  rw [BitVec.toNat_setWidth]
  exact Nat.lt_of_le_of_lt (Nat.mod_le _ _) v.isLt

theorem readNat_lt {s : State} {n w : Nat} {v : BitVec w} (hn : n < 4096) (h : readWordNat s n = v.setWidth 32) :
    readNat s n < 2 ^ w := by
  rw [readNat_eq s hn, h]
  exact toNat_setWidth_word_lt v

/-- STATUS[31:21] is reserved and 0 (10_state R40). -/
theorem toNat_statusWord_lt (s : State) : (statusWord s).toNat < 2 ^ 21 := by
  rw [statusWord, BitVec.toNat_append, BitVec.toNat_ofNat, Nat.zero_mod, Nat.zero_shiftLeft, Nat.zero_or]
  exact BitVec.isLt _

/-- A read by a ready block drives the word of the state and takes the action; nothing else changes (R77). -/
theorem step_read_ready {s : State} {a : Addr} {rest : List HostAction} (hr : s.cmdReady = true)
    (hh : s.host = .read a :: rest) : step s = .next ((s.setHost rest).setRead (readWord s a) s.draws) := by
  have hread : readAt a (s.setHost rest) = (s.setHost rest).setRead (readWord s a) s.draws :=
    readAt_ready (s := s.setHost rest) a hr
  simp only [step, hh, perform, hread]

/-- After it every address reads as before. -/
theorem readWord_after_read (s : State) (rest : List HostAction) (v : Word) (n : Nat) (b : Addr) :
    readWord ((s.setHost rest).setRead v n) b = readWord s b :=
  readWord_withPortsOf s ((s.setHost rest).setRead v n) b

end Sys2Proof.Machine

namespace Sys2Proof.Proofs

open Sys2Proof.Machine Sys2Proof.Spec

/-- Settles O21: the reserved addresses from the read map, the reserved fields from the width of what each word holds,
and STATUS from the frame of a read. -/
theorem reservedReadsAreZero : Obligations.ReservedReadsAreZero := by
  refine ⟨fun s a h => readWordNat_reserved s h, fun s => ?_, fun s a rest hr hh => ?_⟩
  · refine ⟨toNat_statusWord_lt s, toNat_setWidth_word_lt s.result.checks.bits, toNat_setWidth_word_lt s.crc,
      toNat_setWidth_word_lt (halfOf s.expFunc s.expAddr), toNat_setWidth_word_lt s.expCount,
      toNat_setWidth_word_lt s.start, toNat_setWidth_word_lt (BitVec.ofNat 9 s.rx.length),
      toNat_setWidth_word_lt (BitVec.ofNat 9 s.tx.length), fun i hi => ?_, fun i hi => ⟨?_, ?_, ?_⟩⟩
    · exact readNat_lt (by omega) (readWordNat_reg s hi)
    · exact readNat_lt (by omega) (readWordNat_rx s hi)
    · exact readNat_lt (by omega) (readWordNat_tx s hi)
    · exact readNat_lt (by omega) (readWordNat_table s hi)
  · exact ⟨_, step_read_ready hr hh, readWord_after_read s rest _ _ _⟩

/-- Settles O22, by the exact next state of a read and the frame of the read space. -/
theorem readsHaveNoSideEffect : Obligations.ReadsHaveNoSideEffect := by
  intro s a rest hr hh
  exact ⟨_, step_read_ready hr hh, rfl, readWord_after_read s rest _ _⟩

end Sys2Proof.Proofs
end

section
/-! PROOFS. The opcode map of spec/30_encoding.md R102 as the model's opcodes, what a word {OP, A, D} decodes to row by
row (R110), and the step of a ready block that takes a command word (spec/20_memory.md R71, R72). -/

namespace Sys2Proof

open Sys2Proof.Spec

/-- The row of 30_encoding R102 that an opcode stands for. -/
def Opcode.row (o : Opcode) : OpRow :=
  { op := o.code, zeroA := o.use != .byteA, zeroD := o.use != .halfD, command := o.instr }

theorem opMap_eq_map_row : opMap = Opcode.all.map Opcode.row := rfl

theorem Opcode.mem_all (o : Opcode) : o ∈ Opcode.all := by cases o <;> decide

theorem mem_opMap_iff {r : OpRow} : r ∈ opMap ↔ ∃ o : Opcode, o.row = r := by
  simp [opMap_eq_map_row, Opcode.mem_all]

/-- A byte that is the OP of no row is no opcode's code. -/
theorem Opcode.ofCode_eq_none {op : Byte} (h : ∀ r ∈ opMap, r.op ≠ op) : Opcode.ofCode op = none := by
  cases ho : Opcode.ofCode op with
  | none => rfl
  | some o => exact absurd (Opcode.code_of_ofCode ho) (h o.row (mem_opMap_iff.mpr ⟨o, rfl⟩))

theorem OperandUse.aFits_iff (u : OperandUse) (f : Fields) :
    u.aFits f = true ↔ ((u != .byteA) = true → f.a = 0#8) := by
  cases u <;> simp [OperandUse.aFits]

theorem OperandUse.dFits_iff (u : OperandUse) (f : Fields) :
    u.dFits f = true ↔ ((u != .halfD) = true → f.d = 0#16) := by
  cases u <;> simp [OperandUse.dFits]

/-- Decoding `{OP, A, D}` decides on these three fields (R100). -/
theorem decode_fields (op a : Byte) (d : Half) : decode ((op ++ a) ++ d) = decodeFields { op, a, d } :=
  congrArg decodeFields (fieldsOf_word { op, a, d })

theorem decode_row_command (o : Opcode) {a : Byte} {d : Half} (ha : o.row.zeroA = true → a = 0#8)
    (hd : o.row.zeroD = true → d = 0#16) : decode ((o.row.op ++ a) ++ d) = .command (o.row.command a d) := by
  have hA := (o.use.aFits_iff { op := o.code, a, d }).mpr ha
  have hD := (o.use.dFits_iff { op := o.code, a, d }).mpr hd
  simp [decode_fields, decodeFields, Opcode.row, hA, hD]

theorem decode_row_illegal (o : Opcode) {a : Byte} {d : Half}
    (h : (o.row.zeroA = true ∧ a ≠ 0#8) ∨ (o.row.zeroD = true ∧ d ≠ 0#16)) :
    ∃ e, decode ((o.row.op ++ a) ++ d) = .illegal e := by
  by_cases hA : o.use.aFits { op := o.code, a, d } = true
  · have hD : ¬ o.use.dFits { op := o.code, a, d } = true := by
      intro hD
      rcases h with ⟨hz, ha⟩ | ⟨hz, hd⟩
      · exact ha ((o.use.aFits_iff _).mp hA hz)
      · exact hd ((o.use.dFits_iff _).mp hD hz)
    exact ⟨.nonzeroD, by simp [decode_fields, decodeFields, Opcode.row, hA, hD]⟩
  · exact ⟨.nonzeroA, by simp [decode_fields, decodeFields, Opcode.row, hA]⟩

theorem decode_no_row {op : Byte} (a : Byte) (d : Half) (h : ∀ r ∈ opMap, r.op ≠ op) :
    decode ((op ++ a) ++ d) = .illegal .unassignedOp := by
  simp [decode_fields, decodeFields, Opcode.ofCode_eq_none h]

namespace Machine

section

variable {s : State} {w : Word} {rest : List HostAction} (hr : s.cmdReady = true) (hh : s.host = .command w :: rest)

include hr hh

/-- A ready block runs the word the host offers next. -/
theorem step_command_ready : step s = runWord w (s.setHost rest) := by
  simp [step, hh, perform, hr]

theorem step_legal_word {i : Instr} (hw : decode w = .command i) : step s = exec i (s.setHost rest) :=
  (step_command_ready hr hh).trans (runWord_command hw)

theorem step_illegal_word {e : IllegalWord} (hw : decode w = .illegal e) :
    step s = .next (flagIllegal (s.setHost rest)) :=
  (step_command_ready hr hh).trans (runWord_illegal hw)

end

end Machine

end Sys2Proof

namespace Sys2Proof.Proofs

open Sys2Proof.Machine Sys2Proof.Spec

/-- Settles O10: every row is an opcode's, and the word decodes to the row's command, or to an illegal word when an
unused field is nonzero or OP has no row. -/
theorem commandWordsFollowOpcodeMap : Obligations.CommandWordsFollowOpcodeMap := by
  intro s op a d rest hr hh
  refine ⟨fun row hrow hop ha hd => ?_, fun row hrow hop hbad => ?_, fun hnone => ?_⟩
  · obtain ⟨o, rfl⟩ := mem_opMap_iff.mp hrow
    subst hop
    exact step_legal_word hr hh (decode_row_command o ha hd)
  · obtain ⟨o, rfl⟩ := mem_opMap_iff.mp hrow
    subst hop
    obtain ⟨e, he⟩ := decode_row_illegal o hbad
    exact step_illegal_word hr hh he
  · exact step_illegal_word hr hh (decode_no_row a d hnone)

end Sys2Proof.Proofs
end

section
/-! PROOFS. The table update with its index as a mask, and crc16 byte by byte (spec/40_crc.md R141, R142). -/

namespace Sys2Proof.Machine

/-- The low byte is what the mask 0xFF keeps. -/
theorem setWidth_and_mask_eq_loByte (v : Half) : (v &&& 0x00FF#16).setWidth 8 = loByte v := by
  have hmask : (0x00FF#16).setWidth 8 = BitVec.allOnes 8 := rfl
  rw [BitVec.setWidth_and, hmask, BitVec.and_allOnes, loByte, BitVec.setWidth_eq_extractLsb' (by decide)]

/-- upd in the form of 40_crc R141. -/
theorem crcUpd_eq_mask (c : Half) (b : Byte) :
    crcUpd c b = crcTable (((c ^^^ b.setWidth 16) &&& 0x00FF#16).setWidth 8) ^^^ (c >>> 8) := by
  rw [setWidth_and_mask_eq_loByte, crcUpd]

@[simp] theorem crc16_nil : crc16 [] = 0xFFFF#16 := rfl

theorem crc16_append_singleton (bs : List Byte) (b : Byte) : crc16 (bs ++ [b]) = crcUpd (crc16 bs) b := by
  simp only [crc16, crcFrom_append, crcFrom_cons, crcFrom_nil]

end Sys2Proof.Machine

namespace Sys2Proof.Proofs

open Sys2Proof.Machine

/-- Settles O27: the empty sequence leaves the seed, and a last byte is one more table update. -/
theorem crcOfSequence : Obligations.CrcOfSequence :=
  ⟨crc16_nil, fun bs b => (crc16_append_singleton bs b).trans (crcUpd_eq_mask (crc16 bs) b)⟩

end Sys2Proof.Proofs
end

section
/-! PROOFS. What the control and configuration commands answer, by the named updates of the state (spec/41_config.md R160
to R165). -/

namespace Sys2Proof.Machine

variable (s : State)

@[simp] theorem exec_nop : exec .nop s = .next s := rfl
@[simp] theorem exec_clrIllegal : exec .clrIllegal s = .next (s.setIllegal false) := rfl
@[simp] theorem exec_setAddr (a : Byte) : exec (.setAddr a) s = .next (s.setExpAddr a) := rfl
@[simp] theorem exec_setFunc (f : Byte) : exec (.setFunc f) s = .next (s.setExpFunc f) := rfl
@[simp] theorem exec_setCount (n : Half) : exec (.setCount n) s = .next (s.setExpCount n) := rfl
@[simp] theorem exec_setStart (a : Half) : exec (.setStart a) s = .next (s.setStart a) := rfl

end Sys2Proof.Machine

namespace Sys2Proof.Proofs

open Sys2Proof.Machine

/-- Settles O25: each command answers one named update of the state, which writes the field of its rule and no other. -/
theorem controlAndConfigCommands : Obligations.ControlAndConfigCommands := fun s =>
  ⟨exec_nop s, exec_clrIllegal s, exec_setAddr s, exec_setFunc s, exec_setCount s, exec_setStart s⟩

end Sys2Proof.Proofs
end

section
/-! PROOFS. What the transmit framing commands answer: the two that rewrite the buffer, and the two that append to it or
set TX_OVF (spec/42_tx_framing.md R181 to R184). -/

namespace Sys2Proof.Machine

open Sys2Proof.Spec

theorem txAppend_of_fits {bs : List Byte} {s : State} (h : s.tx.length + bs.length ≤ s.caps.tx) :
    txAppend bs s = s.setTx (s.tx ++ bs) := if_pos h

theorem txAppend_of_overflows {bs : List Byte} {s : State} (h : s.caps.tx < s.tx.length + bs.length) :
    txAppend bs s = s.setTxOvf true := if_neg (Nat.not_le.mpr h)

variable (s : State)

@[simp] theorem exec_txClear : exec .txClear s = .next ((s.setTx []).setTxOvf false) := rfl
@[simp] theorem exec_txByte (b : Byte) : exec (.txByte b) s = .next (txAppend [b] s) := rfl
@[simp] theorem exec_txSeal : exec .txSeal s = .next (txAppend (trailer s.tx) s) := rfl

@[simp] theorem exec_txBuildRead :
    exec .txBuildRead s = .next ((s.setTx (sealed (readRequestHead s))).setTxOvf false) := rfl

end Sys2Proof.Machine

namespace Sys2Proof.Proofs

open Sys2Proof.Machine

/-- Settles O32: both commands answer an update of tx and TX_OVF alone, with no condition on the old buffer. -/
theorem txClearAndBuildRead : Obligations.TxClearAndBuildRead := fun s =>
  ⟨exec_txClear s, exec_txBuildRead s⟩

/-- Settles O33, by the two cases of an append of one byte. -/
theorem txByteAppendsOrOverflows : Obligations.TxByteAppendsOrOverflows := by
  intro s b
  rw [exec_txByte]
  constructor
  · intro hroom
    exact congrArg _ (txAppend_of_fits (bs := [b]) hroom)
  · intro hfull
    exact congrArg _ (txAppend_of_overflows (bs := [b]) (Nat.lt_succ_of_le hfull))

/-- Settles O34, by the two cases of an append of the two trailer bytes. -/
theorem txSealAppendsTrailerOrOverflows : Obligations.TxSealAppendsTrailerOrOverflows := by
  intro s
  rw [exec_txSeal]
  constructor
  · intro hroom
    exact congrArg _ (txAppend_of_fits (bs := trailer s.tx) hroom)
  · intro hfull
    exact congrArg _ (txAppend_of_overflows (bs := trailer s.tx) hfull)

end Sys2Proof.Proofs
end

section
/-! PROOFS. What RX_CLEAR, RX_BYTE and TIMEOUT answer: the receive buffer's update, and a result group with no
measurement and no failed check (spec/43_rx_validation.md R201 to R203, R214). -/

namespace Sys2Proof.Machine

theorem rxAppend_of_room (b : Byte) {s : State} (h : s.rx.length < s.caps.rx) :
    rxAppend b s = s.setRx (s.rx ++ [b]) := if_pos h

theorem rxAppend_of_full (b : Byte) {s : State} (h : s.caps.rx ≤ s.rx.length) :
    rxAppend b s = s.setRxOvf true := if_neg (Nat.not_lt.mpr h)

variable (s : State)

@[simp] theorem exec_rxClear : exec .rxClear s = .next (clearResult ((s.setRx []).setRxOvf false)) := rfl
@[simp] theorem exec_rxByte (b : Byte) : exec (.rxByte b) s = .next (clearResult (rxAppend b s)) := rfl

/-- TIMEOUT's outcome is the cleared group but for DONE, ERR_KIND and CAUSE. -/
@[simp] theorem exec_timeout :
    exec .timeout s =
      .next (s.setResult { Result.cleared with done := true, errKind := .timeoutError, cause := .timeout }) := rfl

end Sys2Proof.Machine

namespace Sys2Proof.Proofs

open Sys2Proof.Machine

/-- Settles O37: the result group is Result.cleared, whatever the buffer held. -/
theorem rxClearStartsNewResponse : Obligations.RxClearStartsNewResponse := fun s =>
  ⟨Result.cleared, exec_rxClear s, rfl, rfl, rfl, rfl, rfl, rfl, Checks.bits_clear, rfl, rfl, Result.cleared_reg⟩

/-- Settles O38, by the two cases of an append to rx; the result group is Result.cleared in both. -/
theorem rxByteAppendsOrOverflows : Obligations.RxByteAppendsOrOverflows := by
  intro s b
  refine ⟨Result.cleared, fun hroom => ?_, fun hfull => ?_, rfl, rfl, rfl, rfl, rfl, rfl, Checks.bits_clear, rfl, rfl,
    Result.cleared_reg⟩
  · rw [exec_rxByte, rxAppend_of_room b hroom]
    rfl
  · rw [exec_rxByte, rxAppend_of_full b hfull]
    rfl

/-- Settles O39: the three fields TIMEOUT sets, and the cleared group for the rest. -/
theorem timeoutRecordsTimeoutError : Obligations.TimeoutRecordsTimeoutError := fun s =>
  ⟨_, exec_timeout s, rfl, rfl, rfl, rfl, rfl, rfl, Checks.bits_clear, rfl, rfl, Result.cleared_reg⟩

end Sys2Proof.Proofs
end

section
/-! PROOFS. Each check of a validation in the words of its rule, over rx itself (spec/43_rx_validation.md R203 to
R210). -/

namespace Sys2Proof.Machine

open Sys2Proof.Spec

variable {m : ValidateMode} {len : Nat} {s : State}

theorem evaluable_iff : evaluable s = true ↔ s.rxOvf = false ∧ 4 ≤ s.rx.length := by simp [evaluable]

theorem not_evaluable_iff : evaluable s = false ↔ s.rxOvf = true ∨ s.rx.length < 4 := by
  rw [← Bool.not_eq_true, evaluable_iff]
  cases s.rxOvf <;> simp

theorem ValidateMode.isRegs_iff : m.isRegs = true ↔ m = .regs := by cases m <;> decide

theorem expectedLen_of_devexc (h : isDevexc s = true) : expectedLen m len s = 5 := if_pos h

theorem expectedLen_regs (h : isDevexc s = false) : expectedLen .regs len s = 5 + 2 * s.expCount.toNat := by
  simp [expectedLen, h]

theorem expectedLen_ack (h : isDevexc s = false) : expectedLen .ack len s = len := by
  simp [expectedLen, h]

section Evaluable

variable (he : evaluable s = true)

include he

theorem four_le_length_of_evaluable : 4 ≤ s.rx.length := (evaluable_iff.mp he).2

theorem isDevexc_iff : isDevexc s = true ↔ deviceException s := by
  have hlen := four_le_length_of_evaluable he
  simp [isDevexc, deviceException, byteAt_eq_iff (show 1 < s.rx.length by omega)]

theorem not_isDevexc_iff : isDevexc s = false ↔ ¬ deviceException s := by
  rw [← Bool.not_eq_true, isDevexc_iff he]

theorem checksOf_addr_iff : (checksOf m len s).addr = true ↔ s.rx[0]? ≠ some s.expAddr := by
  have hlen := four_le_length_of_evaluable he
  rw [ne_eq, ← byteAt_eq_iff (by omega)]
  simp [checksOf, he]

theorem checksOf_devexc_iff : (checksOf m len s).devexc = true ↔ deviceException s := by
  rw [← isDevexc_iff he]
  simp [checksOf, he]

theorem checksOf_func_iff :
    (checksOf m len s).func = true ↔ ¬ deviceException s ∧ s.rx[1]? ≠ some s.expFunc := by
  have hlen := four_le_length_of_evaluable he
  rw [← not_isDevexc_iff he, ne_eq, ← byteAt_eq_iff (by omega)]
  simp [checksOf, he]

theorem checksOf_bcount_iff :
    (checksOf m len s).bcount = true ↔ m = .regs ∧ ¬ deviceException s ∧
      (s.rx.length < 5 ∨ (s.rx[2]?).map BitVec.toNat ≠ some (2 * s.expCount.toNat)) := by
  have hlen := four_le_length_of_evaluable he
  rw [← not_isDevexc_iff he, ← ValidateMode.isRegs_iff, (byteAt_eq_iff (by omega) _).mp rfl]
  simp [checksOf, he, and_assoc]

theorem checksOf_crc_iff :
    (checksOf m len s).crc = true ↔ s.rx.drop (s.rx.length - 2) ≠ trailer (s.rx.take (s.rx.length - 2)) := by
  have hlen := four_le_length_of_evaluable he
  rw [ne_eq, ← crc_matches_iff (by omega)]
  simp [checksOf, he]

theorem checksOf_len_iff : (checksOf m len s).len = true ↔ s.rx.length ≠ expectedLen m len s := by
  simp [checksOf, he]

theorem checksOf_regs_iff :
    (checksOf m len s).regs = true ↔ m = .regs ∧ ¬ deviceException s ∧ s.expCount.toNat < 10 := by
  rw [← not_isDevexc_iff he, ← ValidateMode.isRegs_iff]
  simp [checksOf, he, and_assoc]

theorem checksMean_of_evaluable : checksMean m len s (checksOf m len s) := by
  obtain ⟨hovf, hlen⟩ := evaluable_iff.mp he
  obtain ⟨hkovf, hkshort⟩ := checksOf_evaluable (m := m) (len := len) he
  refine ⟨hkovf.trans hovf.symm, by simp [hkshort, hlen], fun hbad => ?_, fun _ _ => ?_⟩
  · rw [← not_evaluable_iff, he] at hbad
    contradiction
  · refine ⟨checksOf_addr_iff he, checksOf_devexc_iff he, checksOf_func_iff he, checksOf_bcount_iff he,
      checksOf_crc_iff he, fun hd => ?_, fun hd hm => ?_, fun hd hm => ?_, checksOf_regs_iff he⟩
    · rw [checksOf_len_iff he, expectedLen_of_devexc ((isDevexc_iff he).mpr hd)]
    · rw [checksOf_len_iff he, hm, expectedLen_regs ((not_isDevexc_iff he).mpr hd)]
    · rw [checksOf_len_iff he, hm, expectedLen_ack ((not_isDevexc_iff he).mpr hd)]

end Evaluable

theorem checksMean_of_not_evaluable (he : evaluable s = false) : checksMean m len s (checksOf m len s) := by
  rw [checksOf_not_evaluable he]
  refine ⟨rfl, decide_eq_true_iff, fun _ => ⟨rfl, rfl, rfl, rfl, rfl, rfl, rfl⟩, fun hovf hlen => ?_⟩
  rw [evaluable_iff.mpr ⟨hovf, hlen⟩] at he
  contradiction

/-- CHECKS records every failed check, each by its own rule. -/
theorem checksOf_checksMean : checksMean m len s (checksOf m len s) := by
  cases he : evaluable s with
  | true => exact checksMean_of_evaluable he
  | false => exact checksMean_of_not_evaluable he

/-- A read-register validation with no failed check has seen the ten registers it loads. -/
theorem length_of_checksOf_regs_clear (h : checksOf .regs len s = Checks.clear) : 25 ≤ s.rx.length := by
  have he := evaluable_of_clear h
  have hdev : ¬ deviceException s := by
    rw [← checksOf_devexc_iff (m := .regs) (len := len) he, h]
    exact Bool.false_ne_true
  have hlength : s.rx.length = 5 + 2 * s.expCount.toNat := by
    rw [← expectedLen_regs (len := len) ((not_isDevexc_iff he).mpr hdev), ← not_ne_iff, ← checksOf_len_iff he, h]
    exact Bool.false_ne_true
  have hcount : ¬ s.expCount.toNat < 10 := by
    intro hlt
    have hregs := (checksOf_regs_iff (len := len) he).mpr ⟨rfl, hdev, hlt⟩
    rw [h] at hregs
    exact Bool.false_ne_true hregs
  omega

end Sys2Proof.Machine
end

section
/-! PROOFS. What both validations record, and the registers VALIDATE_REGS loads (spec/43_rx_validation.md R205, R208,
R211 to R213). -/

namespace Sys2Proof.Machine

open Sys2Proof.Spec

/-- The fields a validation in mode m records in the same way whether or not it loads the registers. -/
structure Records (m : ValidateMode) (len : Nat) (s : State) (r : Result) : Prop where
  done : r.done = true
  mode : r.mode = m
  checks : checksMean m len s r.checks
  exc : excMean s r.excCode
  vcrc : vcrcMean s r.calcCrc r.recvCrc
  cause : causeMeans r

theorem excCodeOf_excMean (s : State) : excMean s (excCodeOf s) := by
  constructor
  · rintro ⟨hovf, hdev, hlen⟩
    have he := evaluable_iff.mpr ⟨hovf, by omega⟩
    have hd := (isDevexc_iff he).mpr hdev
    rw [← byteAt_eq_iff (by omega)]
    simp [excCodeOf, he, hd, hlen]
  · intro hno
    refine if_neg fun h => hno ?_
    simp only [Bool.and_eq_true, decide_eq_true_eq] at h
    obtain ⟨⟨he, hd⟩, hlen⟩ := h
    exact ⟨(evaluable_iff.mp he).1, (isDevexc_iff he).mp hd, hlen⟩

theorem crcsOf_vcrcMean (s : State) : vcrcMean s (calcCrcOf s) (recvCrcOf s) := by
  constructor
  · intro hovf hlen
    have he := evaluable_iff.mpr ⟨hovf, hlen⟩
    have hrecv : recvCrcOf s = trailerOf s.rx := if_pos he
    refine ⟨if_pos he, ?_, ?_⟩
    · rw [hrecv, ← byteAt_eq_iff (by omega)]
      exact (hiByte_halfOf _ _).symm
    · rw [hrecv, ← byteAt_eq_iff (by omega)]
      exact (loByte_halfOf _ _).symm
  · intro hbad
    have he := not_evaluable_iff.mpr hbad
    simp [calcCrcOf, recvCrcOf, he]

/-- The chain of Checks.cause is the table of R211 in its order, one branch a row. -/
theorem causeMeans_of_checks {r : Result} (hcause : r.cause = r.checks.cause) (hkind : r.errKind = r.cause.kind) :
    causeMeans r := by
  rw [causeMeans, hkind, hcause, Checks.cause]
  split_ifs <;> simp [causeOrder, Cause.code, Cause.kind, ErrKind.code, *]

theorem outcomeOf_records (m : ValidateMode) (len : Nat) (s : State) : Records m len s (outcomeOf m len s) where
  done := rfl
  mode := rfl
  checks := checksOf_checksMean
  exc := excCodeOf_excMean s
  vcrc := crcsOf_vcrcMean s
  cause := causeMeans_of_checks rfl rfl

theorem loadRegs_records {m : ValidateMode} {len : Nat} {s : State} {r : Result} (h : Records m len s r)
    (frame : List Byte) : Records m len s (loadRegs r frame) := by
  rcases loadRegs_cases r frame with ⟨-, e⟩ | ⟨-, e⟩ <;> rw [e]
  · exact { h with }
  · exact h

theorem loadRegs_valid_iff {r : Result} (h : r.valid = false) (frame : List Byte) :
    (loadRegs r frame).valid = true ↔ (loadRegs r frame).cause = .none := by
  rcases loadRegs_cases r frame with ⟨hc, e⟩ | ⟨hc, e⟩ <;> simp [e, hc, h]

/-- A register loaded from a frame that reaches so far is the frame's two bytes, high byte first (30_encoding R109). -/
theorem payloadRegs_bytes {frame : List Byte} (h : 25 ≤ frame.length) (i : Fin 10) :
    frame[3 + 2 * i.val]? = some (hiByte (payloadRegs frame)[i]) ∧
    frame[4 + 2 * i.val]? = some (loByte (payloadRegs frame)[i]) := by
  have hreg : (payloadRegs frame)[i] = payloadReg frame i.val := by simp [payloadRegs]
  rw [hreg, ← byteAt_eq_iff (by omega), ← byteAt_eq_iff (by omega), payloadReg, hiByte_halfOf, loByte_halfOf]
  exact ⟨rfl, rfl⟩

@[simp] theorem exec_validateRegs (s : State) :
    exec .validateRegs s = .next (s.setResult (loadRegs (outcomeOf .regs 0 s) s.rx)) := rfl

@[simp] theorem exec_validateAck (len : Byte) (s : State) :
    exec (.validateAck len) s = .next (s.setResult (outcomeOf .ack len.toNat s)) := rfl

/-- VALID = 1: the registers are those of the frame in rx. -/
theorem validateRegs_loads {s : State} (hv : (loadRegs (outcomeOf .regs 0 s) s.rx).valid = true) (i : Fin 10) :
    s.rx[3 + 2 * i.val]? = some (hiByte (loadRegs (outcomeOf .regs 0 s) s.rx).reg[i]) ∧
    s.rx[4 + 2 * i.val]? = some (loByte (loadRegs (outcomeOf .regs 0 s) s.rx).reg[i]) := by
  rcases loadRegs_cases (outcomeOf .regs 0 s) s.rx with ⟨hc, e⟩ | ⟨-, e⟩ <;> rw [e] at hv ⊢
  · exact payloadRegs_bytes (length_of_checksOf_regs_clear (Checks.cause_none.mp hc)) i
  · contradiction

/-- VALID = 0: every register is 0. -/
theorem validateRegs_sentinel {s : State} (hv : (loadRegs (outcomeOf .regs 0 s) s.rx).valid = false) (i : Fin 10) :
    (loadRegs (outcomeOf .regs 0 s) s.rx).reg[i] = 0#16 := by
  rcases loadRegs_cases (outcomeOf .regs 0 s) s.rx with ⟨-, e⟩ | ⟨-, e⟩ <;> rw [e] at hv ⊢
  · contradiction
  · exact Result.cleared_reg i

end Sys2Proof.Machine

namespace Sys2Proof.Proofs

open Sys2Proof.Machine

/-- Settles O40: both commands record the outcome of the checks, and the loading of the registers, which VALIDATE_REGS
adds, changes VALID and REG alone. -/
theorem validationRecordsOutcome : Obligations.ValidationRecordsOutcome := by
  intro s
  constructor
  · obtain ⟨hdone, hmode, hchecks, hexc, hvcrc, hcause⟩ := loadRegs_records (outcomeOf_records .regs 0 s) s.rx
    exact ⟨_, exec_validateRegs s, hdone, hmode, hchecks, hexc, hvcrc, hcause, loadRegs_valid_iff rfl s.rx,
      validateRegs_loads, validateRegs_sentinel⟩
  · intro len
    obtain ⟨hdone, hmode, hchecks, hexc, hvcrc, hcause⟩ := outcomeOf_records .ack len.toNat s
    exact ⟨_, exec_validateAck len s, hdone, hmode, hchecks, hexc, hvcrc, hcause, rfl, Result.cleared_reg⟩

end Sys2Proof.Proofs
end

section
/-! PROOFS. The measurement words (spec/44_decoder.md R241 to R252): the word read at each address of a quantity, and
what the mantissas and divisors are as numbers. -/

namespace Sys2Proof.Machine

open Sys2Proof.Spec

theorem toNat_zext32 (v : Half) : (zext32 v).toNat = v.toNat := BitVec.toNat_setWidth_of_le (by decide)

theorem readWordNat_measure (s : State) {i : Nat} (h : i < 28) :
    readWordNat s (0x020 + i) = measureWord s.result.reg i := by
  simp (disch := omega) only [readWordNat, if_neg, if_pos, Nat.add_sub_cancel_left]

namespace Quantity

theorem all_index (q : Quantity) : all[q.index]? = some q := by cases q <;> rfl

theorem index_lt (q : Quantity) : q.index < 7 := by cases q <;> decide

theorem exists_index_eq (k : Fin 7) : ∃ q : Quantity, q.index = k.val :=
  ⟨all[k.val]'k.isLt, by revert k; decide⟩

/-- The words of quantity q are the measurement words 4k to 4k + 3 (R252). -/
theorem measureWord_index (q : Quantity) (reg : Vector Half 10) {j : Nat} (h : j < 4) :
    measureWord reg (4 * q.index + j) = q.word j reg := by
  have hk : (4 * q.index + j) / 4 = q.index := by omega
  have hj : (4 * q.index + j) % 4 = j := by omega
  rw [measureWord, hk, hj, all_index]

/-- The number read at word j of quantity q (R252). -/
theorem readNat_word (q : Quantity) (s : State) {j : Nat} (h : j < 4) :
    readNat s (0x020 + j + 4 * q.index) = (q.word j s.result.reg).toNat := by
  have hq := q.index_lt
  rw [readNat_eq s (by omega), Nat.add_assoc, Nat.add_comm j, readWordNat_measure s (by omega),
    q.measureWord_index _ h]

theorem mantissaFormula_index (q : Quantity) (reg : Vector Half 10) :
    (mantissaFormula reg)[q.index]? = some (q.mantissa reg).toNat := by
  cases q <;> simp [mantissaFormula, index, mantissa, toNat_comb, toNat_zext32]

theorem divisorTable_index (q : Quantity) : divisorTable[q.index]? = some q.divisor.toNat := by cases q <;> rfl

theorem divisor_pos (q : Quantity) : 0 < q.divisor.toNat := by cases q <;> decide

/-- M = Q * D + R as numbers (R241). -/
theorem mantissa_eq (q : Quantity) (reg : Vector Half 10) :
    (q.mantissa reg).toNat = (q.quotient reg).toNat * q.divisor.toNat + (q.remainder reg).toNat := by
  rw [quotient, remainder, BitVec.toNat_udiv, BitVec.toNat_umod, Nat.div_add_mod']

theorem remainder_lt (q : Quantity) (reg : Vector Half 10) : (q.remainder reg).toNat < q.divisor.toNat := by
  rw [remainder, BitVec.toNat_umod]
  exact Nat.mod_lt _ q.divisor_pos

end Quantity

/-- The combiner as a sum of words: neither the shift nor the addition loses a bit (R242). -/
theorem comb_eq_add (lo hi : Half) : comb lo hi = zext32 lo + (zext32 hi <<< 16) := by
  apply BitVec.eq_of_toNat_eq
  have hlo := lo.isLt
  have hhi := hi.isLt
  rw [toNat_comb, BitVec.toNat_add, BitVec.toNat_shiftLeft, toNat_zext32, toNat_zext32, Nat.shiftLeft_eq]
  omega

end Sys2Proof.Machine

namespace Sys2Proof.Proofs

open Sys2Proof.Machine Sys2Proof.Spec

/-- Settles O47: every k is a quantity's, the words at its addresses are that quantity's M, Q, R and D, and Q and R are
the division of M by a positive D. -/
theorem measurementWordsAreExact : Obligations.MeasurementWordsAreExact := by
  refine ⟨fun s k => ?_, rfl⟩
  obtain ⟨q, hq⟩ := Quantity.exists_index_eq k
  rw [← hq]
  have hM : readNat s (0x020 + 4 * q.index) = (q.mantissa s.result.reg).toNat := q.readNat_word s (j := 0) (by decide)
  have hQ : readNat s (0x021 + 4 * q.index) = (q.quotient s.result.reg).toNat := q.readNat_word s (j := 1) (by decide)
  have hR : readNat s (0x022 + 4 * q.index) = (q.remainder s.result.reg).toNat := q.readNat_word s (j := 2) (by decide)
  have hD : readNat s (0x023 + 4 * q.index) = q.divisor.toNat := q.readNat_word s (j := 3) (by decide)
  rw [hM, hQ, hR, hD]
  exact ⟨(q.mantissaFormula_index _).symm, q.divisorTable_index.symm, q.mantissa_eq _, q.remainder_lt _⟩

/-- Settles O48: the sum form of the combiner and its value. -/
theorem combinerIsLowPlusHighShifted : Obligations.CombinerIsLowPlusHighShifted :=
  fun lo hi => ⟨comb_eq_add lo hi, toNat_comb lo hi⟩

end Sys2Proof.Proofs
end

section
/-! PROOFS. The step of a block to which the host offers nothing (spec/60_exceptions.md R316). -/

namespace Sys2Proof.Machine

/-- A ready block makes no progress of its own. -/
theorem idle_ready {s : State} (hr : s.cmdReady = true) : idle s = .next s := if_pos hr

/-- Without a host action the step is the block's own progress. -/
theorem step_no_action {s : State} (hh : s.host = []) : step s = idle s := by
  rw [step, hh]

end Sys2Proof.Machine

namespace Sys2Proof.Proofs

open Sys2Proof.Machine

/-- Settles O12: with no host action the step is the block's own progress, and a ready block makes none. -/
theorem idleBlockHoldsState : Obligations.IdleBlockHoldsState :=
  fun _ hr hh => (step_no_action hh).trans (idle_ready hr)

end Sys2Proof.Proofs
end

section
/-! PROOFS. The reset edge and the first edge after it (spec/70_reset_and_hazards.md R340). -/

namespace Sys2Proof.Machine

open Sys2Proof.Spec

/-- The reset table speaks of stored fields alone. -/
theorem resetValues_of_sameArch {s t : State} (h : sameArch s t) (hs : resetValues s) : resetValues t := by
  rw [sameArch_iff.mp h]
  exact hs

@[simp] theorem State.withPortsOf_caps (s p : State) : (s.withPortsOf p).caps = s.caps := rfl

theorem caps_eq_of_sameArch {s t : State} (h : sameArch s t) : t.caps = s.caps := by
  rw [sameArch_iff.mp h, State.withPortsOf_caps]

@[simp] theorem readAt_caps (a : Addr) (s : State) : (readAt a s).caps = s.caps :=
  caps_eq_of_sameArch (sameArch_readAt a s)

/-- Outside the capacities and the ports, the fields reset leaves are those of State.reset. -/
theorem resetValues_resetFields (s : State) : resetValues (resetFields s) :=
  Proofs.resetStateHasTableValues

/-- A reset edge leaves the reset table and an unready port with nothing in progress, whatever was in progress. -/
theorem clockEdge_reset {e : EdgeInput} (s : State) (hrst : e.pins.rst = true) :
    ∃ t, clockEdge e s = .next t ∧ resetValues t ∧ t.cmdReady = false ∧ t.inFlight = none ∧ t.caps = s.caps :=
  ⟨(resetFields (readAt e.pins.rdAddr s)).setPort false none, if_pos hrst,
    resetValues_of_sameArch (sameArch_setPort _ _ _) (resetValues_resetFields _), rfl, rfl, by simp⟩

/-- An edge without reset makes an unready block with nothing in progress ready, and accepts no command. -/
theorem clockEdge_becomes_ready {e : EdgeInput} {s : State} (hrst : e.pins.rst = false) (hr : s.cmdReady = false)
    (hf : s.inFlight = none) :
    ∃ u, clockEdge e s = .next u ∧ sameArch s u ∧ u.cmdReady = true ∧ u.inFlight = none := by
  have hedge : clockEdge e s = .next ((readAt e.pins.rdAddr s).setPort true none) := by
    simpa [hr, hf] using clockEdge_cases s hrst
  exact ⟨_, hedge, sameArch_trans (sameArch_readAt _ s) (sameArch_setPort _ _ _), rfl, rfl⟩

end Sys2Proof.Machine

namespace Sys2Proof.Proofs

open Sys2Proof.Machine Sys2Proof.Spec

/-- Settles O2: the reset edge leaves an unready block with nothing in progress, so the next edge only makes it ready
and keeps the stored fields. -/
theorem resetEdgeAbandonsCommandInProgress : Obligations.ResetEdgeAbandonsCommandInProgress := by
  intro e f s he hf
  obtain ⟨t, ht, hvalues, hready, hidle, hcaps⟩ := clockEdge_reset s he
  obtain ⟨u, hu, htu, hready', hidle'⟩ := clockEdge_becomes_ready hf hready hidle
  exact ⟨t, u, ht, hvalues, hready, hidle, hcaps, hu, resetValues_of_sameArch htu hvalues, hready', hidle',
    (caps_eq_of_sameArch htu).trans hcaps⟩

end Sys2Proof.Proofs
end

section
/-! PROOFS. Decoding and encoding undo each other (spec/30_encoding.md R100 to R102, R110, R111), the rows of the opcode
table as the model's opcodes, and the assembler's range check (R113). -/

namespace Sys2Proof

/-- A word is its three fields (R100). -/
@[simp] theorem word_fieldsOf (w : Word) : (fieldsOf w).word = w := by
  refine BitVec.eq_of_getLsbD_eq fun i h => ?_
  rw [Fields.getLsbD_word]
  simp only [fieldsOf, BitVec.getLsbD_extractLsb']
  grind

/-- The fields of a command's word: its opcode and its operand fields. -/
def Instr.fields (i : Instr) : Fields := { op := i.opcode.code, a := i.fieldA, d := i.fieldD }

/-- The field a command leaves unused is zero in its word. -/
theorem Instr.fields_fit (i : Instr) :
    i.opcode.use.aFits i.fields = true ∧ i.opcode.use.dFits i.fields = true := by
  cases i <;> exact ⟨rfl, rfl⟩

@[simp] theorem Instr.opcode_instr (i : Instr) : i.opcode.instr i.fieldA i.fieldD = i := by cases i <;> rfl

@[simp] theorem Opcode.opcode_instr (o : Opcode) (a : Byte) (d : Half) : (o.instr a d).opcode = o := by cases o <;> rfl

/-- The two fields of an opcode that its row allows are the operand fields of the command they stand for. -/
theorem Opcode.fields_instr {o : Opcode} {f : Fields} (hop : o.code = f.op) (ha : o.use.aFits f = true)
    (hd : o.use.dFits f = true) : (o.instr f.a f.d).fields = f := by
  obtain ⟨op, a, d⟩ := f
  obtain rfl : o.code = op := hop
  have hA := (o.use.aFits_iff _).mp ha
  have hD := (o.use.dFits_iff _).mp hd
  cases o <;> simp_all [Instr.fields, Opcode.instr, Instr.opcode, Instr.fieldA, Instr.fieldD, Opcode.use]

/-- What a row accepts: OP is its code, and the fields it leaves unused are zero (R110). -/
def Opcode.Admits (o : Opcode) (f : Fields) : Prop :=
  o.code = f.op ∧ o.use.aFits f = true ∧ o.use.dFits f = true

/-- The fields decode to the command of an opcode exactly when its row admits them. -/
theorem decodeFields_command_iff {f : Fields} {i : Instr} :
    decodeFields f = .command i ↔ ∃ o : Opcode, o.Admits f ∧ o.instr f.a f.d = i := by
  constructor
  · intro h
    unfold decodeFields at h
    split at h
    · contradiction
    · next o ho =>
      split_ifs at h with ha hd
      exact ⟨o, ⟨Opcode.code_of_ofCode ho, ha, hd⟩, Decoded.command.inj h⟩
  · rintro ⟨o, ⟨hop, ha, hd⟩, rfl⟩
    simp [decodeFields, ← hop, ha, hd]

theorem decode_encode (i : Instr) : decode (encode i) = .command i :=
  (decode_fields _ _ _).trans (decodeFields_command_iff.mpr ⟨i.opcode, ⟨rfl, i.fields_fit⟩, i.opcode_instr⟩)

/-- The word of an admitted operand pair is `{OP, A, D}` (R113). -/
theorem encode_instr {o : Opcode} {f : Fields} (h : o.Admits f) : encode (o.instr f.a f.d) = f.word :=
  have ⟨hop, ha, hd⟩ := h
  congrArg Fields.word (Opcode.fields_instr hop ha hd)

/-- The word of a command is `{OP, A, D}` with the operand in its field and the unused field 0 (R113). -/
theorem encode_operands {o : Opcode} {a : Byte} {d : Half} (ha : o.use ≠ .byteA → a = 0#8)
    (hd : o.use ≠ .halfD → d = 0#16) : encode (o.instr a d) = (o.code ++ a) ++ d :=
  encode_instr (f := { op := o.code, a, d })
    ⟨rfl, (o.use.aFits_iff _).mpr (by simpa using ha), (o.use.dFits_iff _).mpr (by simpa using hd)⟩

theorem encode_of_decode {w : Word} {i : Instr} (h : decode w = .command i) : encode i = w := by
  obtain ⟨o, ho, rfl⟩ := decodeFields_command_iff.mp h
  rw [encode_instr ho, word_fieldsOf]

/-- The mask of a row: every bit but those of the operand field. -/
def OperandUse.mask (u : OperandUse) : Fields :=
  { op := 0xFF#8, a := if u = .byteA then 0#8 else 0xFF#8, d := if u = .halfD then 0#16 else 0xFFFF#16 }

/-- The row of spec/opcode_table.json an opcode has. -/
def Opcode.tableRow (o : Opcode) : TableRow :=
  { mnemonic := o.mnemonic, bits := Fields.word { op := o.code, a := 0#8, d := 0#16 }, mask := o.use.mask.word }

theorem opcodeTable_eq_map_tableRow : opcodeTable = Opcode.all.map Opcode.tableRow := by decide

theorem Fields.word_inj {f g : Fields} : f.word = g.word ↔ f = g :=
  ⟨fun h => by rw [← fieldsOf_word f, h, fieldsOf_word], congrArg Fields.word⟩

/-- Masking a word masks each of its fields. -/
theorem Fields.word_and (f g : Fields) :
    f.word &&& g.word = Fields.word { op := f.op &&& g.op, a := f.a &&& g.a, d := f.d &&& g.d } :=
  BitVec.and_append.trans (congrArg (fun v : BitVec 16 => v ++ (f.d &&& g.d)) BitVec.and_append)

theorem Opcode.tableRow_accepts_iff (o : Opcode) (f : Fields) : o.tableRow.accepts f.word = true ↔ o.Admits f := by
  have hop : f.op &&& 0xFF#8 = f.op := BitVec.and_allOnes
  have ha : f.a &&& 0xFF#8 = f.a := BitVec.and_allOnes
  have hd : f.d &&& 0xFFFF#16 = f.d := BitVec.and_allOnes
  rw [TableRow.accepts, beq_iff_eq, tableRow, Fields.word_and, Fields.word_inj, Opcode.Admits, eq_comm (a := o.code)]
  cases o.use <;> simp [OperandUse.mask, OperandUse.aFits, OperandUse.dFits, hop, ha, hd]

theorem Opcode.filter_all_eq (o : Opcode) : (Opcode.all.filter fun p => p = o) = [o] := by cases o <;> rfl

/-- No word is admitted by the rows of two opcodes: their codes differ. -/
theorem Opcode.Admits.unique {o p : Opcode} {f : Fields} (ho : o.Admits f) (hp : p.Admits f) : p = o := by
  have h : Opcode.ofCode p.code = Opcode.ofCode o.code := congrArg _ (hp.1.trans ho.1.symm)
  rwa [Opcode.ofCode_code, Opcode.ofCode_code, Option.some_inj] at h

/-- The rows that accept a word are those whose opcodes allow its fields. -/
theorem opcodeTable_filter_accepts (w : Word) :
    (opcodeTable.filter fun r => r.accepts w) =
      (Opcode.all.filter fun o => o.tableRow.accepts w).map Opcode.tableRow := by
  rw [opcodeTable_eq_map_tableRow, List.filter_map]
  rfl

namespace Machine

section

variable {o : Opcode} {n : Nat}

theorem assembleCommand_unused (h : o.use = .unused) :
    assembleCommand o [] = .commands [o.instr 0#8 0#16] ∧ assembleCommand o [n] = .error .operandCount := by
  simp [assembleCommand, h]

theorem assembleCommand_byteA (h : o.use = .byteA) :
    assembleCommand o [n] =
      if n ≤ 255 then .commands [o.instr (BitVec.ofNat 8 n) 0#16] else .error .outOfRange := by
  simp [assembleCommand, h, OperandUse.admits]

theorem assembleCommand_halfD (h : o.use = .halfD) :
    assembleCommand o [n] =
      if n ≤ 65535 then .commands [o.instr 0#8 (BitVec.ofNat 16 n)] else .error .outOfRange := by
  simp [assembleCommand, h, OperandUse.admits]

end

end Machine

end Sys2Proof

namespace Sys2Proof.Proofs

open Sys2Proof.Machine

/-- Settles O4: the fields of a command's word are those its own row admits, and they stand for the command. -/
theorem decodeEncodeRoundTrip : Obligations.DecodeEncodeRoundTrip := fun i _ => decode_encode i

/-- Settles O5: a decoded word is admitted by its row, so no bit of it is lost in the command. -/
theorem encodeDecodeRoundTrip : Obligations.EncodeDecodeRoundTrip := fun _ _ => encode_of_decode

/-- Settles O6: a row accepts a word exactly when its opcode admits the fields, which at most one opcode does. -/
theorem everyWordIsOneRowOrIllegal : Obligations.EveryWordIsOneRowOrIllegal := by
  intro w
  have haccepts (o : Opcode) : o.tableRow.accepts w = true ↔ o.Admits (fieldsOf w) := by
    rw [← o.tableRow_accepts_iff, word_fieldsOf]
  rw [opcodeTable_filter_accepts]
  refine ⟨fun i h => ?_, fun e h => ?_⟩
  · obtain ⟨o, ho, rfl⟩ := decodeFields_command_iff.mp h
    have hfilter : (Opcode.all.filter fun p => p.tableRow.accepts w) = [o] := by
      rw [← o.filter_all_eq]
      refine List.filter_congr fun p _ => Bool.eq_iff_iff.mpr ?_
      rw [haccepts, decide_eq_true_iff]
      exact ⟨ho.unique, fun hp => hp ▸ ho⟩
    rw [hfilter, Opcode.opcode_instr]
    rfl
  · rw [List.map_eq_nil_iff, List.filter_eq_nil_iff]
    intro o _ hacc
    have hcommand : decode w = .command (o.instr (fieldsOf w).a (fieldsOf w).d) :=
      decodeFields_command_iff.mpr ⟨o, (haccepts o).mp hacc, rfl⟩
    rw [h] at hcommand
    contradiction

/-- Settles O7: each sample is a fixed word, and the decoder computes. -/
theorem sampleWordsDecode : Obligations.SampleWordsDecode := by
  unfold Obligations.SampleWordsDecode
  decide

/-- Settles O8: in range, the operand is the field its opcode uses, and the unused field is 0. -/
theorem assemblerChecksImmediateRange : Obligations.AssemblerChecksImmediateRange := by
  intro o n
  refine ⟨fun hu hn => ?_, fun hu hn => ?_, fun hu => ?_, fun hu hn => ?_, fun hu hn => ?_, fun hu => ?_⟩
  · rw [assembleCommand_byteA hu, if_pos hn]
    exact ⟨_, rfl, encode_operands (fun h => absurd hu h) fun _ => rfl⟩
  · rw [assembleCommand_halfD hu, if_pos hn]
    exact ⟨_, rfl, encode_operands (fun _ => rfl) fun h => absurd hu h⟩
  · exact ⟨_, (assembleCommand_unused (n := n) hu).1, encode_operands (fun _ => rfl) fun _ => rfl⟩
  · rw [assembleCommand_byteA hu, if_neg (by omega)]
  · rw [assembleCommand_halfD hu, if_neg (by omega)]
  · exact (assembleCommand_unused hu).2

end Sys2Proof.Proofs
end

section
/-! PROOFS. The step and the command port: no command, word, step or run ever stops (spec/93_implementation_defined.md
section D), and a busy port completes its command within CMD_LATENCY_MAX edges (spec/20_memory.md R71, R72). -/

namespace Sys2Proof.Machine

open Sys2Proof.Spec

theorem exec_completes (i : Instr) (s : State) : ∃ t, exec i s = .next t := by
  obtain ⟨t, ht, -⟩ := exec_withPortsOf i s s
  exact ⟨t, ht⟩

theorem becomeReady_some {s : State} {f : InFlight} (hf : s.inFlight = some f) :
    becomeReady s = runWord f.word (s.setPort true none) := by simp [becomeReady, hf]

theorem becomeReady_none {s : State} (hf : s.inFlight = none) : becomeReady s = .next (s.setPort true none) := by
  simp [becomeReady, hf]

theorem becomeReady_completes (s : State) : ∃ t, becomeReady s = .next t := by
  cases hf : s.inFlight with
  | none => exact ⟨_, becomeReady_none hf⟩
  | some f =>
    obtain ⟨u, hu⟩ := runWord_completes f.word (s.setPort true none)
    exact ⟨_, (becomeReady_some hf).trans hu⟩

theorem idle_busy {s : State} (hr : s.cmdReady = false) : idle s = becomeReady s := by simp [idle, hr]

/-- A busy block lets an offered command wait, and makes its own progress (log 4). -/
theorem step_command_busy {s : State} {w : Word} {rest : List HostAction} (hr : s.cmdReady = false)
    (hh : s.host = .command w :: rest) : step s = becomeReady s := by
  simp [step, hh, perform, hr]

theorem step_read {s : State} {a : Addr} {rest : List HostAction} (hh : s.host = .read a :: rest) :
    step s = .next (readAt a (s.setHost rest)) := by
  simp [step, hh, perform]

theorem step_reset {s : State} {rest : List HostAction} (hh : s.host = .reset :: rest) :
    step s = .next ((resetFields s).setHost rest) := by
  simp [step, hh, perform]

/-- What a step can do: run the offered word or the one in progress, read, reset, become ready, or hold the state. -/
theorem step_cases (s : State) :
    (s.host = [] ∧ s.cmdReady = true ∧ step s = .next s) ∨
    (s.cmdReady = false ∧ step s = becomeReady s) ∨
    (∃ w rest, s.host = .command w :: rest ∧ s.cmdReady = true ∧ step s = runWord w (s.setHost rest)) ∨
    (∃ a rest, s.host = .read a :: rest ∧ step s = .next (readAt a (s.setHost rest))) ∨
    (∃ rest, s.host = .reset :: rest ∧ step s = .next ((resetFields s).setHost rest)) := by
  rcases hh : s.host with _ | ⟨_ | a | _, rest⟩
  · cases hr : s.cmdReady with
    | true => exact .inl ⟨rfl, rfl, (step_no_action hh).trans (idle_ready hr)⟩
    | false => exact .inr (.inl ⟨rfl, (step_no_action hh).trans (idle_busy hr)⟩)
  · cases hr : s.cmdReady with
    | true => exact .inr (.inr (.inl ⟨_, rest, rfl, rfl, step_command_ready hr hh⟩))
    | false => exact .inr (.inl ⟨rfl, step_command_busy hr hh⟩)
  · exact .inr (.inr (.inr (.inl ⟨a, rest, rfl, step_read hh⟩)))
  · exact .inr (.inr (.inr (.inr ⟨rest, rfl, step_reset hh⟩)))

theorem step_completes (s : State) : ∃ t, step s = .next t := by
  rcases step_cases s with ⟨-, -, h⟩ | ⟨-, h⟩ | ⟨w, rest, -, -, h⟩ | ⟨a, rest, -, h⟩ | ⟨rest, -, h⟩
  · exact ⟨_, h⟩
  · rw [h]
    exact becomeReady_completes s
  · obtain ⟨u, hu⟩ := runWord_completes w (s.setHost rest)
    exact ⟨_, h.trans hu⟩
  · exact ⟨_, h⟩
  · exact ⟨_, h⟩

/-- The edge of a command's completion: it runs on the stored fields at once and the port is ready again. -/
theorem runWord_at_port {w : Word} {s m : State} (h : sameArch s m) :
    ∃ t u, runWord w (m.setPort true none) = .next t ∧ runWord w s = .next u ∧
      t.cmdReady = true ∧ t.inFlight = none ∧ sameArch u t := by
  obtain ⟨t, ht⟩ := runWord_completes w (m.setPort true none)
  obtain ⟨u, hu, htu⟩ := runWord_sameArch (sameArch_symm (sameArch_trans h (sameArch_setPort m true none))) ht
  exact ⟨_, u, ht, hu, rfl, rfl, sameArch_symm htu⟩

/-- From `m`, after fewer than k edges the port is busy and the stored fields are those of `s`; after k edges they are
those the word leaves, run from `s`. -/
def CompletesAfter (k : Nat) (w : Word) (es : List EdgeInput) (s m : State) : Prop :=
  (∀ j, j < k → ∃ v, runEdges (es.take j) m = .next v ∧ v.cmdReady = false ∧ sameArch s v) ∧
    ∃ t u, runEdges (es.take k) m = .next t ∧ runWord w s = .next u ∧
      t.cmdReady = true ∧ t.inFlight = none ∧ sameArch u t

/-- One more waiting edge before the completion. -/
theorem CompletesAfter.cons {k : Nat} {w : Word} {e : EdgeInput} {es : List EdgeInput} {s m m' : State}
    (hr : m.cmdReady = false) (hsm : sameArch s m) (hm : clockEdge e m = .next m') (h : CompletesAfter k w es s m') :
    CompletesAfter (k + 1) w (e :: es) s m := by
  obtain ⟨hwait, t, u, ht, hrun⟩ := h
  refine ⟨fun j hj => ?_, t, u, (runEdges_cons hm _).trans ht, hrun⟩
  cases j with
  | zero => exact ⟨m, rfl, hr, hsm⟩
  | succ j =>
    obtain ⟨v, hv, hbusy⟩ := hwait j (by omega)
    exact ⟨v, (runEdges_cons hm _).trans hv, hbusy⟩

/-- A command in progress completes within the edges its bound leaves, whatever the pins offer. -/
theorem busy_completesAfter {es : List EdgeInput} (hrst : ∀ x ∈ es, x.pins.rst = false) {s m : State} {f : InFlight}
    (hsm : sameArch s m) (hr : m.cmdReady = false) (hf : m.inFlight = some f)
    (hlen : f.waited + es.length = Config.cmdLatencyMax) (hne : es ≠ []) :
    ∃ k, 1 ≤ k ∧ k ≤ es.length ∧ CompletesAfter k f.word es s m := by
  induction es generalizing m f with
  | nil => contradiction
  | cons e es ih =>
    obtain ⟨hrst_e, hrst_es⟩ := List.forall_mem_cons.mp hrst
    have hread := sameArch_trans hsm (sameArch_readAt e.pins.rdAddr m)
    rw [List.length_cons] at hlen ⊢
    rcases clockEdge_cases m hrst_e with ⟨hr', -⟩ | ⟨hr', -⟩ | ⟨-, hf', -⟩ | ⟨-, g, hg, -, hedge⟩ |
      ⟨-, g, hg, -, hw, hedge⟩
    · simp [hr] at hr'
    · simp [hr] at hr'
    · simp [hf] at hf'
    · obtain rfl : f = g := Option.some.inj (hf.symm.trans hg)
      obtain ⟨t, u, ht, hrun⟩ := runWord_at_port (w := f.word) hread
      refine ⟨1, le_refl 1, by omega, fun j hj => ?_, t, u, runEdges_cons (hedge.trans ht) [], hrun⟩
      obtain rfl : j = 0 := by omega
      exact ⟨m, rfl, hr, hsm⟩
    · obtain rfl : f = g := Option.some.inj (hf.symm.trans hg)
      have hne' : es ≠ [] := by
        rintro rfl
        rw [List.length_nil] at hlen
        omega
      obtain ⟨k, hk, hkle, h⟩ := ih hrst_es (f := { f with waited := f.waited + 1 })
        (sameArch_trans hread (sameArch_setPort _ false (some { f with waited := f.waited + 1 }))) rfl rfl
        (by rw [← hlen, Nat.add_right_comm, Nat.add_assoc]) hne'
      exact ⟨k + 1, by omega, by omega, h.cons hr hsm hedge⟩

theorem accepts_iff {e : EdgeInput} {s : State} :
    accepts e s = true ↔ e.pins.rst = false ∧ e.pins.cmdValid = true ∧ s.cmdReady = true := by
  simp [accepts, and_assoc]

/-- An accepting edge only puts the word in progress. -/
theorem clockEdge_accepts {e : EdgeInput} {s : State} (h : accepts e s = true) :
    ∃ m, clockEdge e s = .next m ∧ m.inFlight = some { word := e.pins.cmdData, waited := 0 } ∧
      m.cmdReady = false ∧ sameArch s m := by
  obtain ⟨hrst, hv, hr⟩ := accepts_iff.mp h
  refine ⟨_, ?_, rfl, rfl, sameArch_trans (sameArch_readAt e.pins.rdAddr s) (sameArch_setPort _ _ _)⟩
  simpa [hv, hr] using clockEdge_cases s hrst

/-- An edge that accepts nothing leaves in progress at most the command that was. -/
theorem clockEdge_not_accepts {e : EdgeInput} {s : State} (hp : s.portFits)
    (h : e.pins.rst = true ∨ e.pins.cmdValid = false ∨ s.cmdReady = false) :
    ∃ t, clockEdge e s = .next t ∧
      ∀ f, t.inFlight = some f → ∃ g, s.inFlight = some g ∧ g.word = f.word := by
  cases hrst : e.pins.rst with
  | true =>
    obtain ⟨t, ht, -, -, hidle, -⟩ := clockEdge_reset s hrst
    exact ⟨t, ht, by simp [hidle]⟩
  | false =>
    rcases clockEdge_cases s hrst with ⟨hr, hv, -⟩ | ⟨hr, -, hedge⟩ | ⟨-, -, hedge⟩ | ⟨-, g, -, -, hedge⟩ |
      ⟨-, g, hg, -, -, hedge⟩
    · simp [hrst, hv, hr] at h
    · exact ⟨_, hedge, by simp [State.inFlight_of_ready hp hr]⟩
    · exact ⟨_, hedge, by simp⟩
    · obtain ⟨u, hu⟩ := runWord_completes g.word ((readAt e.pins.rdAddr s).setPort true none)
      exact ⟨_, hedge.trans hu, by simp [State.withPortsOf]⟩
    · refine ⟨_, hedge, fun f hf => ⟨g, hg, ?_⟩⟩
      rw [← Option.some.inj hf]

end Sys2Proof.Machine

namespace Sys2Proof.Proofs

open Sys2Proof.Machine Sys2Proof.Spec

/-- Settles O16, by induction on the edges left: after the accepting edge each edge completes the command or lets it
wait once more, and the bound leaves no edge to wait at the end. -/
theorem acceptedCommandCompletesAtomically : Obligations.AcceptedCommandCompletesAtomically := by
  intro e es s hacc hrst hlen
  obtain ⟨m, hm, hf, hr, hsm⟩ := clockEdge_accepts hacc
  have hne : es ≠ [] := List.ne_nil_of_length_pos (hlen ▸ Nat.succ_pos _)
  obtain ⟨k, hk, hkle, hwait, t, u, ht, hrun⟩ :=
    busy_completesAfter hrst hsm hr hf ((Nat.zero_add _).trans hlen) hne
  refine ⟨k, hk, hlen ▸ hkle, fun j hj => ?_, t, u, (runEdges_cons hm _).trans ht, hrun⟩
  obtain ⟨v, hv, hbusy⟩ := hwait j hj
  exact ⟨v, (runEdges_cons hm _).trans hv, hbusy⟩

/-- Settles O15: the accepting edge, and the edges that accept nothing. -/
theorem acceptanceNeedsHandshake : Obligations.AcceptanceNeedsHandshake := by
  intro e s hp
  by_cases hacc : accepts e s = true
  · obtain ⟨t, ht, hf, hr, hst⟩ := clockEdge_accepts hacc
    refine ⟨t, ht, fun _ _ _ => ⟨hf, hr, hst⟩, fun hno => ?_⟩
    obtain ⟨hrst, hv, hr⟩ := accepts_iff.mp hacc
    simp [hrst, hv, hr] at hno
  · have hno : e.pins.rst = true ∨ e.pins.cmdValid = false ∨ s.cmdReady = false := by
      simpa [accepts_iff, imp_iff_not_or] using hacc
    obtain ⟨t, ht, hkeep⟩ := clockEdge_not_accepts hp hno
    exact ⟨t, ht, fun hrst hv hr => absurd (accepts_iff.mpr ⟨hrst, hv, hr⟩) hacc, fun _ => hkeep⟩

/-- Settles O14, by induction on the number of steps, each of which answers a next state. -/
theorem everyRunIsSafe : Obligations.EveryRunIsSafe := by
  intro n
  induction n with
  | zero => exact fun s => ⟨s, rfl⟩
  | succ n ih =>
    intro s
    obtain ⟨u, hu⟩ := step_completes s
    obtain ⟨t, ht⟩ := ih u
    exact ⟨t, u, hu, ht⟩

/-- Settles O13: no arm of the dispatch stops. -/
theorem everyCommandCompletes : Obligations.EveryCommandCompletes := exec_completes

/-- Settles O9: the step of a ready block with a legal word next. -/
theorem stepRunsDecodedCommand : Obligations.StepRunsDecodedCommand :=
  fun _ _ _ _ hr hh hw => step_legal_word hr hh hw

/-- Settles O11: a busy block without an action, or with a command waiting, makes its own progress. -/
theorem unreadyBlockCompletesFirst : Obligations.UnreadyBlockCompletesFirst := by
  intro s hr hh
  have hstep : step s = becomeReady s := by
    rcases hh with hh | ⟨w, rest, hh⟩
    · exact (step_no_action hh).trans (idle_busy hr)
    · exact step_command_busy hr hh
  refine ⟨fun f hf => hstep.trans (becomeReady_some hf), fun hf => ?_⟩
  rw [hstep, becomeReady_none hf, ← hf]
  rfl

/-- Settles O3: the host's reset leaves the reset table and the later actions. -/
theorem resetActionGivesTableValues : Obligations.ResetActionGivesTableValues := fun s _ hh =>
  ⟨_, step_reset hh, resetValues_resetFields s, rfl, rfl, rfl, rfl⟩

/-- Settles O23: a busy read is one draw of the free value. -/
theorem busyReadDrawsFreeValue : Obligations.BusyReadDrawsFreeValue := fun s a rest hr hh =>
  (step_read hh).trans (congrArg _ (readAt_busy (s := s.setHost rest) a hr))

end Sys2Proof.Proofs
end

section
/-! PROOFS. The invariant of the block (spec/10_state.md sections 1 and 2, spec/90_conflicts.md C7): the stored fields'
part, kept by every command, and the port's part, kept by every step and clock edge. -/

namespace Sys2Proof.Machine

open Sys2Proof.Spec

theorem Cause.kind_eq_none_iff (c : Cause) : c.kind = .none ↔ c = .none := by cases c <;> decide

/-- What the invariant says of a result group alone. -/
def Result.Sound (r : Result) : Prop := r.sentinel ∧ r.coherent

theorem Result.cleared_sound : Result.cleared.Sound :=
  ⟨fun _ => rfl, fun _ => rfl, rfl, .inl rfl, by simp [Result.cleared]⟩

/-- What TIMEOUT records. -/
theorem Result.timeout_sound :
    Result.Sound { Result.cleared with done := true, errKind := .timeoutError, cause := .timeout } :=
  ⟨fun _ => rfl, by simp, rfl, .inr ⟨rfl, rfl⟩, by simp [Result.cleared]⟩

theorem outcomeOf_sound (m : ValidateMode) (len : Nat) (s : State) : (outcomeOf m len s).Sound :=
  ⟨fun _ => rfl, by simp [outcomeOf], rfl, .inl rfl, by simp [outcomeOf, Result.cleared]⟩

theorem loadRegs_sound (len : Nat) (s : State) (frame : List Byte) : (loadRegs (outcomeOf .regs len s) frame).Sound := by
  rcases loadRegs_cases (outcomeOf .regs len s) frame with ⟨hc, e⟩ | ⟨-, e⟩ <;> rw [e]
  · exact ⟨by simp, by simp [outcomeOf], rfl, .inl rfl, fun _ => ⟨rfl, hc, rfl⟩⟩
  · exact outcomeOf_sound .regs len s

/-- A frame that passes every check of VALIDATE_REGS did not overflow, is long enough and ends in its trailer. -/
theorem frame_of_regs_clear {len : Nat} {s : State} (h : checksOf .regs len s = Checks.clear) :
    s.rxOvf = false ∧ 25 ≤ s.rx.length ∧ crc16 (bodyOf s.rx) = trailerOf s.rx := by
  have he := evaluable_of_clear h
  have hlen := length_of_checksOf_regs_clear h
  have hcrc : ¬ (checksOf .regs len s).crc = true := by simp [h, Checks.clear]
  rw [checksOf_crc_iff he, not_not, ← crc_matches_iff (by omega)] at hcrc
  exact ⟨(evaluable_iff.mp he).1, hlen, hcrc⟩

/-- The invariant on the stored fields. -/
structure State.Stored (s : State) : Prop where
  caps : Config.legalCaps s.caps
  buffers : s.buffersFit
  result : s.result.Sound
  measured : s.measured

theorem State.inv_iff {s : State} : s.Inv ↔ s.Stored ∧ s.portFits := by
  constructor
  · rintro ⟨hcaps, hbuffers, hsentinel, hcoherent, hmeasured, hport⟩
    exact ⟨⟨hcaps, hbuffers, ⟨hsentinel, hcoherent⟩, hmeasured⟩, hport⟩
  · rintro ⟨⟨hcaps, hbuffers, ⟨hsentinel, hcoherent⟩, hmeasured⟩, hport⟩
    exact ⟨hcaps, hbuffers, hsentinel, hcoherent, hmeasured, hport⟩

/-- A result group without a measurement can always be recorded. -/
theorem State.Stored.setResult_of_not_valid {s : State} (hcaps : Config.legalCaps s.caps) (hbuffers : s.buffersFit)
    {r : Result} (hr : r.Sound) (hv : r.valid = false) : (s.setResult r).Stored :=
  ⟨hcaps, hbuffers, hr, fun h => absurd (h.symm.trans hv) (by decide)⟩

theorem State.Stored.validateRegs {s : State} (h : s.Stored) :
    (s.setResult (loadRegs (outcomeOf .regs 0 s) s.rx)).Stored := by
  refine ⟨h.caps, h.buffers, loadRegs_sound 0 s s.rx, fun hv => ?_⟩
  rw [State.setResult_result] at hv ⊢
  rcases loadRegs_cases (outcomeOf .regs 0 s) s.rx with ⟨hc, e⟩ | ⟨-, e⟩ <;> rw [e] at hv ⊢
  · obtain ⟨hovf, hlen, hcrc⟩ := frame_of_regs_clear (Checks.cause_none.mp hc)
    exact ⟨hovf, hlen, hcrc, rfl⟩
  · contradiction

/-- Appending to tx, or setting TX_OVF, touches neither rx nor the result group. -/
theorem State.Stored.txAppend {s : State} (h : s.Stored) (bs : List Byte) : (txAppend bs s).Stored := by
  obtain ⟨hrx, htx, hovf⟩ := h.buffers
  have hlen := txAppend_length bs s htx
  rcases txAppend_cases bs s with ⟨-, e⟩ | ⟨-, e⟩ <;> rw [e] at hlen ⊢ <;>
    exact ⟨h.caps, ⟨hrx, hlen, hovf⟩, h.result, h.measured⟩

/-- An overflow of rx is set only on a full buffer, and a byte appended leaves no overflow to record. -/
theorem rxAppend_buffersFit {s : State} (h : s.buffersFit) (b : Byte) : (rxAppend b s).buffersFit := by
  obtain ⟨hrx, htx, hovf⟩ := h
  rcases rxAppend_cases b s with ⟨hroom, e⟩ | ⟨hfull, e⟩ <;> rw [e]
  · refine ⟨by simpa using hroom, htx, fun ho => ?_⟩
    have := hovf ho
    omega
  · exact ⟨hrx, htx, fun _ => le_antisymm hrx hfull⟩

theorem rxAppend_caps (b : Byte) (s : State) : (rxAppend b s).caps = s.caps := by
  rcases rxAppend_cases b s with ⟨-, e⟩ | ⟨-, e⟩ <;> rw [e] <;> rfl

/-- Every command keeps the invariant on the stored fields. -/
theorem exec_stored {i : Instr} {s t : State} (h : s.Stored) (ht : exec i s = .next t) : t.Stored := by
  obtain ⟨hrx, htx, hovf⟩ := h.buffers
  cases i <;> obtain rfl := Host.Outcome.next.inj ht
  case nop => exact h
  case clrIllegal | crcInit | crcByte | setAddr | setFunc | setCount | setStart => exact { h with }
  case txClear => exact ⟨h.caps, ⟨hrx, Nat.zero_le _, hovf⟩, h.result, h.measured⟩
  case txBuildRead =>
    obtain ⟨-, -, htxcap, -⟩ := h.caps
    exact ⟨h.caps, ⟨hrx, htxcap, hovf⟩, h.result, h.measured⟩
  case txByte b => exact h.txAppend [b]
  case txSeal => exact h.txAppend (trailer s.tx)
  case rxClear =>
    exact .setResult_of_not_valid (s := (s.setRx []).setRxOvf false) h.caps ⟨Nat.zero_le _, htx, nofun⟩
      Result.cleared_sound rfl
  case rxByte b =>
    exact .setResult_of_not_valid ((rxAppend_caps b s).symm ▸ h.caps) (rxAppend_buffersFit h.buffers b)
      Result.cleared_sound rfl
  case validateRegs => exact h.validateRegs
  case validateAck len => exact .setResult_of_not_valid h.caps h.buffers (outcomeOf_sound .ack len.toNat s) rfl
  case timeout => exact .setResult_of_not_valid h.caps h.buffers Result.timeout_sound rfl

theorem clockEdge_reset_eq {e : EdgeInput} (s : State) (hrst : e.pins.rst = true) :
    clockEdge e s = .next ((resetFields (readAt e.pins.rdAddr s)).setPort false none) := if_pos hrst

/-- A property of the stored fields alone that no command, no illegal word and no reset breaks. -/
structure Kept (P : State → Prop) : Prop where
  ports : ∀ s p : State, P s → P (s.withPortsOf p)
  exec : ∀ (i : Instr) (s t : State), P s → exec i s = .next t → P t
  illegal : ∀ s : State, P s → P (flagIllegal s)
  reset : ∀ s : State, P s → P (resetFields s)

namespace Kept

variable {P : State → Prop} (h : Kept P) {s t : State}

include h

theorem of_sameArch (hs : P s) (hst : sameArch s t) : P t := by
  rw [sameArch_iff.mp hst]
  exact h.ports s t hs

theorem setPort (hs : P s) (ready : Bool) (f : Option InFlight) : P (s.setPort ready f) :=
  h.of_sameArch hs (sameArch_setPort s ready f)

theorem setHost (hs : P s) (rest : List HostAction) : P (s.setHost rest) := h.ports s (s.setHost rest) hs

theorem readAt (hs : P s) (a : Addr) : P (readAt a s) := h.of_sameArch hs (sameArch_readAt a s)

theorem of_runWord {w : Word} (hs : P s) (ht : runWord w s = .next t) : P t := by
  cases hw : decode w with
  | command i => exact h.exec i s t hs ((runWord_command hw).symm.trans ht)
  | illegal e => exact Host.Outcome.next.inj ((runWord_illegal hw).symm.trans ht) ▸ h.illegal s hs

theorem of_becomeReady (hs : P s) (ht : becomeReady s = .next t) : P t := by
  have hport := h.setPort hs true none
  cases hf : s.inFlight with
  | none => exact Host.Outcome.next.inj ((becomeReady_none hf).symm.trans ht) ▸ hport
  | some f => exact h.of_runWord hport ((becomeReady_some hf).symm.trans ht)

theorem of_step (hs : P s) (ht : step s = .next t) : P t := by
  rcases step_cases s with ⟨-, -, e⟩ | ⟨-, e⟩ | ⟨w, rest, -, -, e⟩ | ⟨a, rest, -, e⟩ | ⟨rest, -, e⟩ <;> rw [e] at ht
  · exact Host.Outcome.next.inj ht ▸ hs
  · exact h.of_becomeReady hs ht
  · exact h.of_runWord (h.setHost hs rest) ht
  · exact Host.Outcome.next.inj ht ▸ h.readAt (h.setHost hs rest) a
  · exact Host.Outcome.next.inj ht ▸ h.setHost (h.reset s hs) rest

theorem of_clockEdge {e : EdgeInput} (hs : P s) (ht : clockEdge e s = .next t) : P t := by
  have hread := h.readAt hs e.pins.rdAddr
  cases hrst : e.pins.rst with
  | true =>
    rw [clockEdge_reset_eq s hrst] at ht
    exact Host.Outcome.next.inj ht ▸ h.setPort (h.reset _ hread) false none
  | false =>
    rcases clockEdge_cases s hrst with ⟨-, -, hedge⟩ | ⟨-, -, hedge⟩ | ⟨-, -, hedge⟩ | ⟨-, f, -, -, hedge⟩ |
      ⟨-, f, -, -, -, hedge⟩ <;> rw [hedge] at ht
    · exact Host.Outcome.next.inj ht ▸ h.setPort hread _ _
    · exact Host.Outcome.next.inj ht ▸ hread
    · exact Host.Outcome.next.inj ht ▸ h.setPort hread _ _
    · exact h.of_runWord (h.setPort hread true none) ht
    · exact Host.Outcome.next.inj ht ▸ h.setPort hread _ _

end Kept

theorem stored_kept : Kept State.Stored where
  ports _ _ h := { h with }
  exec _ _ _ := exec_stored
  illegal _ h := { h with }
  reset _ h := ⟨h.caps, ⟨Nat.zero_le _, Nat.zero_le _, nofun⟩, Result.cleared_sound, nofun⟩

/-- The sentinel needs no other part of the invariant (10_state R33). -/
theorem exec_sentinel {i : Instr} {s t : State} (h : s.result.sentinel) (ht : exec i s = .next t) :
    t.result.sentinel := by
  cases i <;> obtain rfl := Host.Outcome.next.inj ht
  case txByte b => rcases txAppend_cases [b] s with ⟨-, e⟩ | ⟨-, e⟩ <;> rw [e] <;> exact h
  case txSeal => rcases txAppend_cases (trailer s.tx) s with ⟨-, e⟩ | ⟨-, e⟩ <;> rw [e] <;> exact h
  case rxClear | rxByte | validateAck | timeout => exact fun _ => rfl
  case validateRegs => exact (loadRegs_sound 0 s s.rx).1
  all_goals exact h

theorem sentinel_kept : Kept fun s => s.result.sentinel where
  ports _ _ h := h
  exec _ _ _ := exec_sentinel
  illegal _ h := h
  reset _ _ := Result.cleared_sound.1

/-! The port's part of the invariant. -/

theorem runWord_portFits {w : Word} {s t : State} (h : s.portFits) (ht : runWord w s = .next t) : t.portFits := by
  obtain ⟨u, hu⟩ := runWord_completes w s
  rw [← Host.Outcome.next.inj (hu.symm.trans ht)]
  exact h

theorem readAt_portFits {s : State} (h : s.portFits) (a : Addr) : (readAt a s).portFits := by
  obtain ⟨v, n, e⟩ := readAt_eq a s
  rw [e]
  exact h

theorem becomeReady_portFits {s t : State} (ht : becomeReady s = .next t) : t.portFits := by
  have hport : (s.setPort true none).portFits := trivial
  cases hf : s.inFlight with
  | none => exact Host.Outcome.next.inj ((becomeReady_none hf).symm.trans ht) ▸ hport
  | some f => exact runWord_portFits hport ((becomeReady_some hf).symm.trans ht)

theorem step_portFits {s t : State} (h : s.portFits) (ht : step s = .next t) : t.portFits := by
  rcases step_cases s with ⟨-, -, e⟩ | ⟨-, e⟩ | ⟨w, rest, -, -, e⟩ | ⟨a, rest, -, e⟩ | ⟨rest, -, e⟩ <;> rw [e] at ht
  · exact Host.Outcome.next.inj ht ▸ h
  · exact becomeReady_portFits ht
  · exact runWord_portFits (s := s.setHost rest) h ht
  · exact Host.Outcome.next.inj ht ▸ readAt_portFits (s := s.setHost rest) h a
  · exact Host.Outcome.next.inj ht ▸ trivial

/-- Without reset the port stays well-formed as its refinement of the atomic words says. -/
theorem clockEdge_portFits {e : EdgeInput} {s t : State} (h : s.portFits) (ht : clockEdge e s = .next t) :
    t.portFits := by
  cases hrst : e.pins.rst with
  | true =>
    rw [clockEdge_reset_eq s hrst] at ht
    exact Host.Outcome.next.inj ht ▸ trivial
  | false =>
    obtain ⟨m, hm, hport, -⟩ := clockEdge_refinesAtomic hrst h
    exact Host.Outcome.next.inj (hm.symm.trans ht) ▸ hport

theorem step_inv {s t : State} (h : s.Inv) (ht : step s = .next t) : t.Inv := by
  obtain ⟨hstored, hport⟩ := State.inv_iff.mp h
  exact State.inv_iff.mpr ⟨stored_kept.of_step hstored ht, step_portFits hport ht⟩

theorem clockEdge_inv {e : EdgeInput} {s t : State} (h : s.Inv) (ht : clockEdge e s = .next t) : t.Inv := by
  obtain ⟨hstored, hport⟩ := State.inv_iff.mp h
  exact State.inv_iff.mpr ⟨stored_kept.of_clockEdge hstored ht, clockEdge_portFits hport ht⟩

theorem State.reset_inv : State.reset.Inv :=
  ⟨by decide, ⟨Nat.zero_le _, Nat.zero_le _, nofun⟩, Result.cleared_sound.1, Result.cleared_sound.2, nofun, trivial⟩

end Sys2Proof.Machine

namespace Sys2Proof.Proofs

open Sys2Proof.Machine

/-- Settles O51: the cleared result group and empty buffers. -/
theorem resetMeetsInvariant : Obligations.ResetMeetsInvariant := State.reset_inv

/-- Settles O52, by the cases of a step: the commands keep the stored part of the invariant, and a step changes the port
only to make the block ready. -/
theorem stepKeepsInvariant : Obligations.StepKeepsInvariant := fun _ _ => step_inv

/-- Settles O53, by the cases of a clock edge, in the same two parts. -/
theorem clockEdgeKeepsInvariant : Obligations.ClockEdgeKeepsInvariant := fun _ _ _ => clockEdge_inv

/-- Settles O54: the sentinel needs no other part of the invariant. -/
theorem noMeasurementMeansNoRegisters : Obligations.NoMeasurementMeansNoRegisters :=
  ⟨Result.cleared_sound.1, fun _ _ => sentinel_kept.of_step⟩

end Sys2Proof.Proofs
end

section
/-! PROOFS. The words of the read space field by field (spec/20_memory.md R75, spec/10_state.md R36 to R42, R45), and the
stored fields they determine. -/

namespace Sys2Proof.Machine

open Sys2Proof.Spec

/-- A one-bit field as the bit it is. -/
theorem getLsbD_of_field {n i : Nat} {w : BitVec n} {b : Bool} (h : w.extractLsb' i 1 = bit b) : w.getLsbD i = b := by
  have h0 := congrArg (fun v : BitVec 1 => v.getLsbD 0) h
  simpa [bit] using h0

theorem bit_inj {a b : Bool} : bit a = bit b ↔ a = b := by cases a <;> cases b <;> decide

section

variable (reserved : BitVec 11) (alarm illegal txOvf rxOvf mode : BitVec 1) (exc : Byte) (cause : BitVec 4)
  (kind : BitVec 2) (done valid : BitVec 1)

/-- The fields of the STATUS layout (10_state R40), written at the width they add up to. -/
theorem status_layout :
    let w := reserved ++ (alarm ++ (illegal ++ (txOvf ++ (rxOvf ++ (mode ++ (exc ++ (cause ++ (kind ++
      (done ++ valid)))))))))
    w.extractLsb' 0 1 = valid ∧ w.extractLsb' 1 1 = done ∧ w.extractLsb' 2 2 = kind ∧ w.extractLsb' 4 4 = cause ∧
    w.extractLsb' 8 8 = exc ∧ w.extractLsb' 16 1 = mode ∧ w.extractLsb' 17 1 = rxOvf ∧ w.extractLsb' 18 1 = txOvf ∧
    w.extractLsb' 19 1 = illegal ∧ w.extractLsb' 20 1 = alarm ∧ w.extractLsb' 21 11 = reserved := by
  simp (disch := omega) [BitVec.extractLsb'_append_eq_of_le, BitVec.extractLsb'_append_eq_of_add_le, -Nat.reduceAdd]

end

/-- STATUS shows its fields (10_state R40). -/
theorem statusWord_fields (s : State) :
    let w := statusWord s
    w.extractLsb' 0 1 = bit s.result.valid ∧ w.extractLsb' 1 1 = bit s.result.done ∧
    w.extractLsb' 2 2 = s.result.errKind.code ∧ w.extractLsb' 4 4 = s.result.cause.code ∧
    w.extractLsb' 8 8 = s.result.excCode ∧ w.extractLsb' 16 1 = s.result.mode.code ∧
    w.extractLsb' 17 1 = bit s.rxOvf ∧ w.extractLsb' 18 1 = bit s.txOvf ∧ w.extractLsb' 19 1 = bit s.illegal ∧
    w.extractLsb' 20 1 = bit (alarmActive s) ∧ w.extractLsb' 21 11 = 0#11 :=
  status_layout _ _ _ _ _ _ _ _ _ _ _

section

variable (regs len crc bcount func devexc addr short ovf : BitVec 1)

/-- The fields of the CHECKS layout (10_state R41), written at the width they add up to. -/
theorem checks_layout :
    let w := (regs ++ (len ++ (crc ++ (bcount ++ (func ++ (devexc ++ (addr ++ (short ++ ovf))))))))
    w.extractLsb' 0 1 = ovf ∧ w.extractLsb' 1 1 = short ∧ w.extractLsb' 2 1 = addr ∧ w.extractLsb' 3 1 = devexc ∧
    w.extractLsb' 4 1 = func ∧ w.extractLsb' 5 1 = bcount ∧ w.extractLsb' 6 1 = crc ∧ w.extractLsb' 7 1 = len ∧
    w.extractLsb' 8 1 = regs := by
  simp (disch := omega) [BitVec.extractLsb'_append_eq_of_le, BitVec.extractLsb'_append_eq_of_add_le, -Nat.reduceAdd]

end

theorem Checks.bits_fields (k : Checks) :
    let w := k.bits
    w.extractLsb' 0 1 = bit k.ovf ∧ w.extractLsb' 1 1 = bit k.short ∧ w.extractLsb' 2 1 = bit k.addr ∧
    w.extractLsb' 3 1 = bit k.devexc ∧ w.extractLsb' 4 1 = bit k.func ∧ w.extractLsb' 5 1 = bit k.bcount ∧
    w.extractLsb' 6 1 = bit k.crc ∧ w.extractLsb' 7 1 = bit k.len ∧ w.extractLsb' 8 1 = bit k.regs :=
  checks_layout _ _ _ _ _ _ _ _ _

/-- A narrower value shown in the low bits of a word leaves the high bits 0 (20_memory R76). -/
theorem extractLsb_setWidth_word_high {n k : Nat} (v : BitVec n) : (v.setWidth 32).extractLsb' n k = 0#k := by
  ext i hi
  rw [BitVec.getElem_extractLsb', BitVec.getLsbD_setWidth, BitVec.getLsbD_of_ge v _ (Nat.le_add_right n i),
    Bool.and_false, BitVec.getElem_zero]

/-- A field of a value shown in a word is the word's field at the same place. -/
theorem extractLsb_setWidth_word {n i k : Nat} (v : BitVec n) (hik : i + k ≤ 32) :
    (v.setWidth 32).extractLsb' i k = v.extractLsb' i k := by
  ext j hj
  have hlt : i + j < 32 := by omega
  rw [BitVec.getElem_extractLsb', BitVec.getElem_extractLsb', BitVec.getLsbD_setWidth, decide_eq_true hlt,
    Bool.true_and]

/-- The bits of CHECKS in its word (10_state R41). -/
theorem checksWord_bits (k : Checks) :
    let w : Word := k.bits.setWidth 32
    w.getLsbD 0 = k.ovf ∧ w.getLsbD 1 = k.short ∧ w.getLsbD 2 = k.addr ∧ w.getLsbD 3 = k.devexc ∧
    w.getLsbD 4 = k.func ∧ w.getLsbD 5 = k.bcount ∧ w.getLsbD 6 = k.crc ∧ w.getLsbD 7 = k.len ∧
    w.getLsbD 8 = k.regs := by
  have hfield {i : Nat} {b : Bool} (hi : i + 1 ≤ 32) (h : k.bits.extractLsb' i 1 = bit b) :
      (k.bits.setWidth 32).getLsbD i = b := getLsbD_of_field ((extractLsb_setWidth_word k.bits hi).trans h)
  obtain ⟨h0, h1, h2, h3, h4, h5, h6, h7, h8⟩ := k.bits_fields
  exact ⟨hfield (by decide) h0, hfield (by decide) h1, hfield (by decide) h2, hfield (by decide) h3,
    hfield (by decide) h4, hfield (by decide) h5, hfield (by decide) h6, hfield (by decide) h7, hfield (by decide) h8⟩

theorem toNat_lengthWord {n : Nat} (h : n ≤ 256) : (lengthWord n).toNat = n := by
  rw [lengthWord, BitVec.toNat_setWidth_of_le (by decide), BitVec.toNat_ofNat, Nat.mod_eq_of_lt (by omega)]

theorem toNat_capsWord {s : State} (h : Config.legalCaps s.caps) :
    (capsWord s).toNat = s.caps.tx * 65536 + s.caps.rx := by
  obtain ⟨-, hrx, -, htx⟩ := h
  have hword : (capsWord s).toNat = _ := toNat_comb (BitVec.ofNat 16 s.caps.rx) (BitVec.ofNat 16 s.caps.tx)
  rw [hword, BitVec.toNat_ofNat, BitVec.toNat_ofNat, Nat.mod_eq_of_lt (by omega), Nat.mod_eq_of_lt (by omega),
    Nat.add_comm]

theorem length_le_of_buffersFit {s : State} (hb : s.buffersFit) (hc : Config.legalCaps s.caps) :
    s.rx.length ≤ 256 ∧ s.tx.length ≤ 256 := by
  obtain ⟨hrx, htx, -⟩ := hb
  obtain ⟨-, hrxcap, -, htxcap⟩ := hc
  exact ⟨hrx.trans hrxcap, htx.trans htxcap⟩

theorem toNat_byteWord (b : Byte) : (byteWord b).toNat = b.toNat := BitVec.toNat_setWidth_of_le (by decide)

/-- A buffer window reads a byte of the buffer, or 0 past its end (20_memory R75). -/
theorem toNat_byteWord_byteAt (frame : List Byte) (i : Nat) :
    (byteWord (byteAt frame i)).toNat = if h : i < frame.length then frame[i].toNat else 0 := by
  rw [toNat_byteWord, byteAt, List.getD_eq_getElem?_getD]
  split
  · next h => rw [List.getElem?_eq_getElem h, Option.getD_some]
  · next h => rw [List.getElem?_eq_none (Nat.le_of_not_lt h), Option.getD_none, BitVec.toNat_zero]

/-! The stored fields as far as a word determines them. -/

theorem ErrKind.code_inj {a b : ErrKind} : a.code = b.code ↔ a = b := by cases a <;> cases b <;> decide

theorem Cause.code_inj {a b : Cause} : a.code = b.code ↔ a = b := by cases a <;> cases b <;> decide

theorem ValidateMode.code_inj {a b : ValidateMode} : a.code = b.code ↔ a = b := by cases a <;> cases b <;> decide

theorem fields_of_statusWord_eq {s t : State} (h : statusWord s = statusWord t) :
    s.result.valid = t.result.valid ∧ s.result.done = t.result.done ∧ s.result.errKind = t.result.errKind ∧
    s.result.cause = t.result.cause ∧ s.result.excCode = t.result.excCode ∧ s.result.mode = t.result.mode ∧
    s.rxOvf = t.rxOvf ∧ s.txOvf = t.txOvf ∧ s.illegal = t.illegal := by
  obtain ⟨hvalid, hdone, hkind, hcause, hexc, hmode, hrx, htx, hill, -, -⟩ := statusWord_fields s
  obtain ⟨tvalid, tdone, tkind, tcause, texc, tmode, trx, ttx, till, -, -⟩ := statusWord_fields t
  rw [h] at hvalid hdone hkind hcause hexc hmode hrx htx hill
  exact ⟨bit_inj.mp (hvalid.symm.trans tvalid), bit_inj.mp (hdone.symm.trans tdone),
    ErrKind.code_inj.mp (hkind.symm.trans tkind), Cause.code_inj.mp (hcause.symm.trans tcause), hexc.symm.trans texc,
    ValidateMode.code_inj.mp (hmode.symm.trans tmode), bit_inj.mp (hrx.symm.trans trx), bit_inj.mp (htx.symm.trans ttx),
    bit_inj.mp (hill.symm.trans till)⟩

theorem Checks.eq_of_word_eq {k l : Checks} (h : k.bits.setWidth 32 = l.bits.setWidth 32) : k = l := by
  have hk := checksWord_bits k
  have hl := checksWord_bits l
  simp only [h, hl] at hk
  cases k
  cases l
  simp_all

theorem zext32_inj {v w : Half} (h : zext32 v = zext32 w) : v = w :=
  BitVec.eq_of_toNat_eq (by rw [← toNat_zext32 v, h, toNat_zext32])

theorem byteWord_inj {a b : Byte} (h : byteWord a = byteWord b) : a = b :=
  BitVec.eq_of_toNat_eq (by rw [← toNat_byteWord a, h, toNat_byteWord])

theorem halfOf_inj {a b c d : Byte} (h : halfOf a b = halfOf c d) : a = c ∧ b = d :=
  ⟨by rw [← hiByte_halfOf a b, h, hiByte_halfOf], by rw [← loByte_halfOf a b, h, loByte_halfOf]⟩

theorem comb_inj {a b c d : Half} (h : comb a b = comb c d) : a = c ∧ b = d := by
  have hlt := congrArg BitVec.toNat h
  rw [toNat_comb, toNat_comb] at hlt
  exact ⟨BitVec.eq_of_toNat_eq (by omega), BitVec.eq_of_toNat_eq (by omega)⟩

/-- The words of a buffer, its length and its window, determine a buffer of at most 256 bytes. -/
theorem frame_eq_of_words {as bs : List Byte} (has : as.length ≤ 256) (hbs : bs.length ≤ 256)
    (hlength : lengthWord as.length = lengthWord bs.length)
    (hbytes : ∀ i, i < 256 → byteWord (byteAt as i) = byteWord (byteAt bs i)) : as = bs := by
  have hlen : as.length = bs.length := by rw [← toNat_lengthWord has, hlength, toNat_lengthWord hbs]
  refine List.ext_getElem? fun i => ?_
  by_cases hi : i < as.length
  · have hi' : i < bs.length := hlen ▸ hi
    rw [(byteAt_eq_iff hi _).mp rfl, byteWord_inj (hbytes i (by omega)), (byteAt_eq_iff hi' _).mp rfl]
  · rw [List.getElem?_eq_none (Nat.le_of_not_lt hi), List.getElem?_eq_none (by omega)]

section

variable {s t : State} (h : ∀ n, n < 4096 → readWordNat s n = readWordNat t n)

include h

/-- The read port shows the whole result group (10_state R40 to R42, R32). -/
theorem result_eq_of_reads : s.result = t.result := by
  obtain ⟨hvalid, hdone, hkind, hcause, hexc, hmode, -⟩ := fields_of_statusWord_eq (h 0x000 (by decide))
  have hchecks := Checks.eq_of_word_eq (h 0x001 (by decide))
  obtain ⟨hcalc, hrecv⟩ : s.result.calcCrc = t.result.calcCrc ∧ s.result.recvCrc = t.result.recvCrc :=
    comb_inj (h 0x003 (by decide))
  have hreg : s.result.reg = t.result.reg := by
    refine Vector.ext fun i hi => zext32_inj ?_
    rw [← readWordNat_reg s hi, ← readWordNat_reg t hi, h _ (by omega)]
  cases hs : s.result
  cases ht : t.result
  simp_all

theorem rx_eq_of_reads (hs : s.rx.length ≤ 256) (ht : t.rx.length ≤ 256) : s.rx = t.rx :=
  frame_eq_of_words hs ht (h 0x007 (by decide)) fun i hi => by
    rw [← readWordNat_rx s hi, ← readWordNat_rx t hi, h _ (by omega)]

theorem tx_eq_of_reads (hs : s.tx.length ≤ 256) (ht : t.tx.length ≤ 256) : s.tx = t.tx :=
  frame_eq_of_words hs ht (h 0x008 (by decide)) fun i hi => by
    rw [← readWordNat_tx s hi, ← readWordNat_tx t hi, h _ (by omega)]

theorem caps_eq_of_reads (hs : Config.legalCaps s.caps) (ht : Config.legalCaps t.caps) : s.caps = t.caps := by
  have hword : (capsWord s).toNat = (capsWord t).toNat := congrArg BitVec.toNat (h 0x009 (by decide))
  rw [toNat_capsWord hs, toNat_capsWord ht] at hword
  obtain ⟨-, hsrx, -⟩ := hs
  obtain ⟨-, htrx, -⟩ := ht
  cases hsc : s.caps
  cases htc : t.caps
  simp_all
  omega

theorem sameArch_of_reads (hsb : s.buffersFit) (htb : t.buffersFit) (hs : Config.legalCaps s.caps)
    (ht : Config.legalCaps t.caps) : sameArch s t := by
  obtain ⟨hsrx, hstx⟩ := length_le_of_buffersFit hsb hs
  obtain ⟨htrx, httx⟩ := length_le_of_buffersFit htb ht
  obtain ⟨-, -, -, -, -, -, hrxOvf, htxOvf, hillegal⟩ := fields_of_statusWord_eq (h 0x000 (by decide))
  obtain ⟨hfunc, haddr⟩ : s.expFunc = t.expFunc ∧ s.expAddr = t.expAddr :=
    halfOf_inj (zext32_inj (h 0x004 (by decide)))
  exact ⟨zext32_inj (h 0x002 (by decide)), haddr, hfunc, zext32_inj (h 0x005 (by decide)),
    zext32_inj (h 0x006 (by decide)), rx_eq_of_reads h hsrx htrx, hrxOvf, tx_eq_of_reads h hstx httx, htxOvf, hillegal,
    result_eq_of_reads h, caps_eq_of_reads h hs ht⟩

end

end Sys2Proof.Machine

namespace Sys2Proof.Proofs

open Sys2Proof.Machine Sys2Proof.Spec

/-- Settles O18: the layout of STATUS, with its one-bit fields as bits. -/
theorem statusWordFields : Obligations.StatusWordFields := by
  intro s w
  obtain ⟨hvalid, hdone, hkind, hcause, hexc, hmode, hrx, htx, hill, halarm, hres⟩ := statusWord_fields s
  have hack : s.result.mode.code = bit (s.result.mode == .ack) := by cases s.result.mode <;> rfl
  exact ⟨getLsbD_of_field hvalid, getLsbD_of_field hdone, hkind, hcause, hexc, getLsbD_of_field (hmode.trans hack),
    getLsbD_of_field hrx, getLsbD_of_field htx, getLsbD_of_field hill, getLsbD_of_field halarm, hres⟩

/-- Settles O19: each word is a field, or two, widened to 32 bits. -/
theorem controlWordsFollowMap : Obligations.ControlWordsFollowMap := by
  intro s hb hc
  obtain ⟨hrx, htx⟩ := length_le_of_buffersFit hb hc
  obtain ⟨h0, h1, h2, h3, h4, h5, h6, h7, h8⟩ := checksWord_bits s.result.checks
  refine ⟨h0, h1, h2, h3, h4, h5, h6, h7, h8, extractLsb_setWidth_word_high s.result.checks.bits, toNat_zext32 s.crc,
    BitVec.extractLsb'_append_eq_right, BitVec.extractLsb'_append_eq_left, ?_, ?_,
    extractLsb_setWidth_word_high (halfOf s.expFunc s.expAddr), toNat_zext32 s.expCount, toNat_zext32 s.start,
    toNat_lengthWord hrx, toNat_lengthWord htx, toNat_capsWord hc⟩
  · exact (extractLsb_setWidth_word (halfOf s.expFunc s.expAddr) (by decide)).trans (loByte_halfOf _ _)
  · exact (extractLsb_setWidth_word (halfOf s.expFunc s.expAddr) (by decide)).trans (hiByte_halfOf _ _)

/-- Settles O20: the four windows of the read map. -/
theorem windowWordsFollowMap : Obligations.WindowWordsFollowMap := by
  intro s
  refine ⟨fun i => ?_, fun i hi => ?_, fun i hi => ?_, fun i hi => ?_⟩
  · have hi := i.isLt
    rw [readNat_eq s (by omega), readWordNat_reg s hi, toNat_zext32]
    rfl
  · rw [readNat_eq s (by omega), readWordNat_rx s hi, toNat_byteWord_byteAt]
  · rw [readNat_eq s (by omega), readWordNat_tx s hi, toNat_byteWord_byteAt]
  · rw [readNat_eq s (by omega), readWordNat_table s hi, toNat_zext32]

/-- Settles O24: every stored field is determined by the words that show it, and the words by the stored fields. -/
theorem readPortShowsExactlyTheState : Obligations.ReadPortShowsExactlyTheState := by
  intro s t hsb htb hs ht
  constructor
  · intro h
    refine sameArch_of_reads (fun n hn => ?_) hsb htb hs ht
    simpa only [readWord, BitVec.toNat_ofNat, Nat.mod_eq_of_lt hn] using h (BitVec.ofNat 12 n)
  · exact fun h a => (readWord_sameArch h a).symm

end Sys2Proof.Proofs
end

section
/-! PROOFS. What a command leaves unchanged: the fields outside its row (spec/10_state.md R47), the sticky bits of other
commands (spec/60_exceptions.md R303, R304), and the words that show none of its fields (spec/20_memory.md R75). -/

namespace Sys2Proof.Machine

open Sys2Proof.Spec

/-- The fields outside fs are the same in both states. -/
def WritesOnly (fs : List Field) (s t : State) : Prop := ∀ f, f ∉ fs → f.same s t

theorem setTx_writesOnly (s : State) (v : List Byte) : WritesOnly [.tx] s (s.setTx v) := by
  intro f hf
  cases f <;> simp_all [Field.same]

theorem setTxOvf_writesOnly (s : State) (v : Bool) : WritesOnly [.txOvf] s (s.setTxOvf v) := by
  intro f hf
  cases f <;> simp_all [Field.same]

theorem setRx_writesOnly (s : State) (v : List Byte) : WritesOnly [.rx] s (s.setRx v) := by
  intro f hf
  cases f <;> simp_all [Field.same]

theorem setRxOvf_writesOnly (s : State) (v : Bool) : WritesOnly [.rxOvf] s (s.setRxOvf v) := by
  intro f hf
  cases f <;> simp_all [Field.same]

theorem clearResult_writesOnly (s : State) : WritesOnly [.result] s (clearResult s) := by
  intro f hf
  cases f <;> simp_all [Field.same]

theorem same_trans {f : Field} {s t u : State} (hst : f.same s t) (htu : f.same t u) : f.same s u := by
  cases f <;> exact Eq.trans htu hst

theorem WritesOnly.mono {fs gs : List Field} {s t : State} (h : WritesOnly fs s t) (hsub : fs ⊆ gs) :
    WritesOnly gs s t := fun f hf => h f fun hmem => hf (hsub hmem)

theorem WritesOnly.trans {fs gs : List Field} {s t u : State} (hst : WritesOnly fs s t) (htu : WritesOnly gs t u) :
    WritesOnly (fs ++ gs) s u := by
  intro f hf
  obtain ⟨hfs, hgs⟩ := not_or.mp (mt List.mem_append.mpr hf)
  exact same_trans (hst f hfs) (htu f hgs)

theorem txAppend_writesOnly (bs : List Byte) (s : State) : WritesOnly [.tx, .txOvf] s (txAppend bs s) := by
  rcases txAppend_cases bs s with ⟨-, e⟩ | ⟨-, e⟩ <;> rw [e]
  · exact (setTx_writesOnly s _).mono (by simp)
  · exact (setTxOvf_writesOnly s true).mono (by simp)

theorem rxAppend_writesOnly (b : Byte) (s : State) : WritesOnly [.rx, .rxOvf] s (rxAppend b s) := by
  rcases rxAppend_cases b s with ⟨-, e⟩ | ⟨-, e⟩ <;> rw [e]
  · exact (setRx_writesOnly s _).mono (by simp)
  · exact (setRxOvf_writesOnly s true).mono (by simp)

/-- A command writes nothing outside its row of R47. -/
theorem exec_writesOnly {i : Instr} {s t : State} (ht : exec i s = .next t) : WritesOnly (writeSet i) s t := by
  cases i <;> obtain rfl := Host.Outcome.next.inj ht
  case txByte b => exact txAppend_writesOnly [b] s
  case txSeal => exact txAppend_writesOnly (trailer s.tx) s
  case rxByte b => exact (rxAppend_writesOnly b s).trans (clearResult_writesOnly _)
  all_goals
    intro f hf
    cases f <;> simp_all [writeSet, Field.same]

/-! The sticky bits. -/

theorem rxOvf_mem_writeSet {i : Instr} (h : .rxOvf ∈ writeSet i) : i = .rxClear ∨ ∃ b, i = .rxByte b := by
  cases i <;> simp_all [writeSet]

theorem txOvf_mem_writeSet {i : Instr} (h : .txOvf ∈ writeSet i) :
    i = .txClear ∨ i = .txBuildRead ∨ (∃ b, i = .txByte b) ∨ i = .txSeal := by
  cases i <;> simp_all [writeSet]

theorem illegal_mem_writeSet {i : Instr} (h : .illegal ∈ writeSet i) : i = .clrIllegal := by
  cases i <;> simp_all [writeSet]

/-- What an append can do to TX_OVF: leave it, or set it on bytes that do not fit. -/
theorem txAppend_txOvf (bs : List Byte) (s : State) :
    (txAppend bs s).txOvf = s.txOvf ∨ (txAppend bs s).txOvf = true ∧ s.caps.tx < s.tx.length + bs.length := by
  rcases txAppend_cases bs s with ⟨-, e⟩ | ⟨hfull, e⟩ <;> rw [e]
  · exact .inl rfl
  · exact .inr ⟨rfl, hfull⟩

theorem rxAppend_rxOvf (b : Byte) (s : State) :
    (rxAppend b s).rxOvf = s.rxOvf ∨ (rxAppend b s).rxOvf = true ∧ s.caps.rx ≤ s.rx.length := by
  rcases rxAppend_cases b s with ⟨-, e⟩ | ⟨hfull, e⟩ <;> rw [e]
  · exact .inl rfl
  · exact .inr ⟨rfl, hfull⟩

section

variable {i : Instr} {s t : State} (ht : exec i s = .next t)

include ht

/-- What a command can do to RX_OVF. -/
theorem exec_rxOvf : t.rxOvf = s.rxOvf ∨ (t.rxOvf = false ∧ i = .rxClear) ∨
    (t.rxOvf = true ∧ (∃ b, i = .rxByte b) ∧ s.caps.rx ≤ s.rx.length) := by
  by_cases hmem : Field.rxOvf ∈ writeSet i
  · rcases rxOvf_mem_writeSet hmem with rfl | ⟨b, rfl⟩ <;> obtain rfl := Host.Outcome.next.inj ht
    · exact .inr (.inl ⟨rfl, rfl⟩)
    · rcases rxAppend_rxOvf b s with h | ⟨h, hfull⟩
      · exact .inl h
      · exact .inr (.inr ⟨h, ⟨b, rfl⟩, hfull⟩)
  · exact .inl (exec_writesOnly ht .rxOvf hmem)

/-- What a command can do to TX_OVF. -/
theorem exec_txOvf : t.txOvf = s.txOvf ∨ (t.txOvf = false ∧ (i = .txClear ∨ i = .txBuildRead)) ∨
    (t.txOvf = true ∧ (((∃ b, i = .txByte b) ∧ s.caps.tx ≤ s.tx.length) ∨
      (i = .txSeal ∧ s.caps.tx < s.tx.length + 2))) := by
  by_cases hmem : Field.txOvf ∈ writeSet i
  · rcases txOvf_mem_writeSet hmem with rfl | rfl | ⟨b, rfl⟩ | rfl <;> obtain rfl := Host.Outcome.next.inj ht
    · exact .inr (.inl ⟨rfl, .inl rfl⟩)
    · exact .inr (.inl ⟨rfl, .inr rfl⟩)
    · rcases txAppend_txOvf [b] s with h | ⟨h, hfull⟩
      · exact .inl h
      · exact .inr (.inr ⟨h, .inl ⟨⟨b, rfl⟩, Nat.le_of_lt_succ hfull⟩⟩)
    · rcases txAppend_txOvf (trailer s.tx) s with h | ⟨h, hfull⟩
      · exact .inl h
      · exact .inr (.inr ⟨h, .inr ⟨rfl, hfull⟩⟩)
  · exact .inl (exec_writesOnly ht .txOvf hmem)

/-- What a command can do to ILLEGAL. -/
theorem exec_illegal : t.illegal = s.illegal ∨ (t.illegal = false ∧ i = .clrIllegal) := by
  by_cases hmem : Field.illegal ∈ writeSet i
  · obtain rfl := illegal_mem_writeSet hmem
    obtain rfl := Host.Outcome.next.inj ht
    exact .inr ⟨rfl, rfl⟩
  · exact .inl (exec_writesOnly ht .illegal hmem)

end

/-! The words of the read space. -/

/-- The addresses at which a stored field is shown (20_memory R75). -/
def shownAt (f : Field) (n : Nat) : Prop :=
  match f with
  | .crc => n = 0x002
  | .expAddr | .expFunc => n = 0x004
  | .expCount => n = 0x005
  | .start => n = 0x006
  | .rx => n = 0x007 ∨ (0x100 ≤ n ∧ n < 0x200)
  | .tx => n = 0x008 ∨ (0x200 ≤ n ∧ n < 0x300)
  | .rxOvf | .txOvf | .illegal => n = 0x000
  | .result => resultWords n
  | .caps => n = 0x009
  | .cmdReady | .inFlight | .host | .rdData | .draws => False

theorem statusWord_congr {s t : State} (hres : t.result = s.result) (hrx : t.rxOvf = s.rxOvf) (htx : t.txOvf = s.txOvf)
    (hill : t.illegal = s.illegal) : statusWord t = statusWord s := by
  simp only [statusWord, alarmActive, hres, hrx, htx, hill]

/-- An address reads the same in two states that agree on the fields shown there. -/
theorem readWordNat_eq_of_shown {s t : State} {n : Nat} (h : ∀ f, shownAt f n → f.same s t) :
    readWordNat t n = readWordNat s n := by
  have hres : resultWords n → t.result = s.result := h .result
  have hrx : n = 0x007 ∨ (0x100 ≤ n ∧ n < 0x200) → t.rx = s.rx := h .rx
  have htx : n = 0x008 ∨ (0x200 ≤ n ∧ n < 0x300) → t.tx = s.tx := h .tx
  have hcaps : n = 0x009 → t.caps = s.caps := h .caps
  unfold readWordNat
  refine
    ite_congr rfl (fun e => statusWord_congr (hres (.inl e)) (h .rxOvf e) (h .txOvf e) (h .illegal e)) fun _ =>
    ite_congr rfl (fun e => by rw [hres (.inr (.inl e))]) fun _ =>
    ite_congr rfl (fun e => congrArg zext32 (h .crc e)) fun _ =>
    ite_congr rfl (fun e => by rw [vcrcWord, vcrcWord, hres (.inr (.inr (.inl e)))]) fun _ =>
    ite_congr rfl (fun e => congrArg zext32 (congrArg₂ halfOf (h .expFunc e) (h .expAddr e))) fun _ =>
    ite_congr rfl (fun e => congrArg zext32 (h .expCount e)) fun _ =>
    ite_congr rfl (fun e => congrArg zext32 (h .start e)) fun _ =>
    ite_congr rfl (fun e => by rw [hrx (.inl e)]) fun _ =>
    ite_congr rfl (fun e => by rw [htx (.inl e)]) fun _ =>
    ite_congr rfl (fun e => by rw [capsWord, capsWord, hcaps e]) fun _ =>
    ite_congr rfl (fun _ => rfl) fun hreg =>
    ite_congr rfl (fun _ => by rw [hres (.inr (.inr (.inr (by omega))))]) fun _ =>
    ite_congr rfl (fun _ => rfl) fun hmeasure =>
    ite_congr rfl (fun _ => by rw [hres (.inr (.inr (.inr (by omega))))]) fun _ =>
    ite_congr rfl (fun _ => rfl) fun hrxwin =>
    ite_congr rfl (fun _ => by rw [hrx (.inr (by omega))]) fun htxwin =>
    ite_congr rfl (fun _ => by rw [htx (.inr (by omega))]) fun _ => rfl

theorem readWordNat_eq_of_writesOnly {fs : List Field} {s t : State} {n : Nat} (h : WritesOnly fs s t)
    (hn : ∀ f ∈ fs, ¬ shownAt f n) : readWordNat t n = readWordNat s n :=
  readWordNat_eq_of_shown fun f hf => h f fun hmem => hn f hmem hf

/-- Bytes appended to a frame leave every other byte as it was, those past both ends among them. -/
theorem byteAt_append {as bs : List Byte} {i : Nat} (h : i < as.length ∨ as.length + bs.length ≤ i) :
    byteAt (as ++ bs) i = byteAt as i := by
  simp only [byteAt, List.getD_eq_getElem?_getD]
  rcases h with h | h
  · rw [List.getElem?_append_left h]
  · rw [List.getElem?_eq_none (by rw [List.length_append]; exact h), List.getElem?_eq_none (by omega)]

/-- An append to tx shows in STATUS, in TX_LEN and at the indices of the new bytes. -/
theorem readWordNat_txAppend {bs : List Byte} {s : State} {n : Nat} (hstatus : n ≠ 0x000) (hlen : n ≠ 0x008)
    (hnew : n < 0x200 + s.tx.length ∨ 0x200 + s.tx.length + bs.length ≤ n) :
    readWordNat (txAppend bs s) n = readWordNat s n := by
  rcases txAppend_cases bs s with ⟨-, e⟩ | ⟨-, e⟩ <;> rw [e]
  · by_cases hwin : 0x200 ≤ n ∧ n < 0x300
    · obtain ⟨i, rfl⟩ := Nat.exists_eq_add_of_le hwin.1
      rw [readWordNat_tx _ (by omega), readWordNat_tx _ (by omega)]
      exact congrArg byteWord (byteAt_append (by omega))
    · exact readWordNat_eq_of_writesOnly (setTx_writesOnly s _) (by simpa [shownAt, hlen] using hwin)
  · exact readWordNat_eq_of_writesOnly (setTxOvf_writesOnly s true) (by simpa [shownAt] using hstatus)

/-- An append to rx shows in STATUS, in RX_LEN and at the index of the new byte. -/
theorem readWordNat_rxAppend {b : Byte} {s : State} {n : Nat} (hstatus : n ≠ 0x000) (hlen : n ≠ 0x007)
    (hnew : n ≠ 0x100 + s.rx.length) : readWordNat (rxAppend b s) n = readWordNat s n := by
  rcases rxAppend_cases b s with ⟨-, e⟩ | ⟨-, e⟩ <;> rw [e]
  · by_cases hwin : 0x100 ≤ n ∧ n < 0x200
    · obtain ⟨i, rfl⟩ := Nat.exists_eq_add_of_le hwin.1
      rw [readWordNat_rx _ (by omega), readWordNat_rx _ (by omega)]
      exact congrArg byteWord (byteAt_append (bs := [b]) (by rw [List.length_singleton]; omega))
    · exact readWordNat_eq_of_writesOnly (setRx_writesOnly s _) (by simpa [shownAt, hlen] using hwin)
  · exact readWordNat_eq_of_writesOnly (setRxOvf_writesOnly s true) (by simpa [shownAt] using hstatus)

theorem readWordNat_untouched {i : Instr} {s t : State} {n : Nat} (ht : exec i s = .next t) (hn : ¬ touches i s n) :
    readWordNat t n = readWordNat s n := by
  have hframe := readWordNat_eq_of_writesOnly (n := n) (exec_writesOnly ht)
  cases i
  case txByte b =>
    obtain rfl := Host.Outcome.next.inj ht
    simp only [touches, not_or] at hn
    obtain ⟨hstatus, hlen, hnew⟩ := hn
    exact readWordNat_txAppend hstatus hlen (by rw [List.length_singleton]; omega)
  case txSeal =>
    obtain rfl := Host.Outcome.next.inj ht
    simp only [touches, not_or] at hn
    obtain ⟨hstatus, hlen, hnew, hnew'⟩ := hn
    exact readWordNat_txAppend hstatus hlen (by rw [trailer_length]; omega)
  case rxByte b =>
    obtain rfl := Host.Outcome.next.inj ht
    simp only [touches, not_or] at hn
    obtain ⟨hres, hlen, hnew⟩ := hn
    exact (readWordNat_eq_of_writesOnly (clearResult_writesOnly _) (by simpa [shownAt] using hres)).trans
      (readWordNat_rxAppend (fun h => hres (.inl h)) hlen hnew)
  all_goals
    refine hframe fun f hf hshown => hn ?_
    clear hframe hn ht
    cases f <;> simp_all [writeSet, touches, shownAt, resultWords]

end Sys2Proof.Machine

namespace Sys2Proof.Proofs

open Sys2Proof.Machine Sys2Proof.Spec

/-- Settles O55: the frame of every command, the two cases of an append, and the illegal word. -/
theorem commandsWriteOnlyTheirRow : Obligations.CommandsWriteOnlyTheirRow := by
  have htx (bs : List Byte) (s : State) : (txAppend bs s).tx = s.tx ∨ (txAppend bs s).txOvf = s.txOvf := by
    rcases txAppend_cases bs s with ⟨-, e⟩ | ⟨-, e⟩ <;> simp [e]
  refine ⟨fun i s t ht => ⟨exec_writesOnly ht, ?_, ?_⟩, fun w e s h => runWord_illegal h⟩
  · rintro (⟨b, rfl⟩ | rfl) <;> obtain rfl := Host.Outcome.next.inj ht
    · exact htx [b] s
    · exact htx (trailer s.tx) s
  · rintro ⟨b, rfl⟩
    obtain rfl := Host.Outcome.next.inj ht
    rcases rxAppend_cases b s with ⟨-, e⟩ | ⟨-, e⟩ <;> simp [e]

/-- Settles O56: an address reads as before when no field shown there is written, and within a buffer's window when its
byte is not appended. -/
theorem untouchedAddressesReadAsBefore : Obligations.UntouchedAddressesReadAsBefore :=
  fun _ _ _ _ ht hn => readWordNat_untouched ht hn

/-- Settles O57, by what a command can do to each sticky bit. -/
theorem stickyBitsChangeOnlyByTheirCommands : Obligations.StickyBitsChangeOnlyByTheirCommands := by
  intro i s t ht
  have hrx := exec_rxOvf ht
  have htx := exec_txOvf ht
  have hill := exec_illegal ht
  refine ⟨fun h h' => ?_, fun h h' => ?_, fun h h' => ?_, fun h h' => ?_, fun h h' => ?_, fun h => ?_⟩
  · simpa [h, h'] using hrx
  · simpa [h, h'] using hrx
  · simpa [h, h'] using htx
  · simpa [h, h'] using htx
  · simpa [h, h'] using hill
  · rcases hill with hkeep | ⟨hclear, -⟩
    · exact hkeep.trans h
    · exact hclear

end Sys2Proof.Proofs
end

section
/-! PROOFS. The CRC: the table update is the bit-serial one (spec/40_crc.md R144), which is linear and one-to-one in each
argument, so that the residue law (R145) and the single-bit property (R148) follow. -/

namespace Sys2Proof.Machine

open Sys2Proof.Spec

theorem crcTable_eq_crcBits : ∀ i : Byte, crcTable i = crcBits 8 (i.setWidth 16) := by decide +kernel

/-- A value whose bit 0 is clear is only shifted. -/
theorem crcBit_of_even {v : Half} (h : v.getLsbD 0 = false) : crcBit v = v >>> 1 := by
  rw [crcBit, h]
  rfl

theorem crcBit_of_odd {v : Half} (h : v.getLsbD 0 = true) : crcBit v = (v >>> 1) ^^^ 0xA001#16 := if_pos h

/-- The shift is linear. -/
theorem crcBit_xor (v w : Half) : crcBit (v ^^^ w) = crcBit v ^^^ crcBit w := by
  have hbit : (v ^^^ w).getLsbD 0 = (v.getLsbD 0 ^^ w.getLsbD 0) := BitVec.getLsbD_xor
  cases hv : v.getLsbD 0 <;> cases hw : w.getLsbD 0 <;> rw [hv, hw] at hbit
  · rw [crcBit_of_even hbit, crcBit_of_even hv, crcBit_of_even hw, BitVec.ushiftRight_xor_distrib]
  · rw [crcBit_of_odd hbit, crcBit_of_even hv, crcBit_of_odd hw, BitVec.ushiftRight_xor_distrib, BitVec.xor_assoc]
  · rw [crcBit_of_odd hbit, crcBit_of_odd hv, crcBit_of_even hw, BitVec.ushiftRight_xor_distrib]
    ac_rfl
  · rw [crcBit_of_even hbit, crcBit_of_odd hv, crcBit_of_odd hw, BitVec.ushiftRight_xor_distrib]
    simp [BitVec.xor_assoc]

theorem crcBits_xor (n : Nat) (v w : Half) : crcBits n (v ^^^ w) = crcBits n v ^^^ crcBits n w := by
  induction n generalizing v w with
  | zero => rfl
  | succ n ih => rw [crcBits, crcBit_xor, ih, crcBits, crcBits]

/-- A value whose low n bits are clear is only shifted. -/
theorem crcBits_of_low_zero {n : Nat} {v : Half} (h : ∀ i < n, v.getLsbD i = false) : crcBits n v = v >>> n := by
  induction n generalizing v with
  | zero => exact (BitVec.ushiftRight_zero v).symm
  | succ n ih =>
    have hshift : ∀ i < n, (v >>> 1).getLsbD i = false := fun i hi => by
      rw [BitVec.getLsbD_ushiftRight, h _ (by omega)]
    rw [crcBits, crcBit_of_even (h 0 (by omega)), ih hshift, ← BitVec.shiftRight_add, Nat.add_comm]

/-- The 0xA001 feeds bit 15 and the shift clears it, so the shift loses nothing. -/
theorem crcBit_eq_zero {v : Half} (h : crcBit v = 0#16) : v = 0#16 := by
  cases hv : v.getLsbD 0 with
  | true =>
    have h15 := congrArg (fun x : Half => x.getLsbD 15) ((crcBit_of_odd hv).symm.trans h)
    simp [BitVec.getLsbD_of_ge] at h15
  | false =>
    rw [crcBit_of_even hv] at h
    refine BitVec.eq_of_getLsbD_eq fun i hi => ?_
    cases i with
    | zero => exact hv
    | succ i =>
      have hbit := congrArg (fun x : Half => x.getLsbD i) h
      simpa [Nat.add_comm] using hbit

theorem crcBits_eq_zero {n : Nat} {v : Half} (h : crcBits n v = 0#16) : v = 0#16 := by
  induction n generalizing v with
  | zero => exact h
  | succ n ih => exact crcBit_eq_zero (ih h)

theorem crcBits_inj {n : Nat} {v w : Half} (h : crcBits n v = crcBits n w) : v = w := by
  have hzero : crcBits n (v ^^^ w) = 0#16 := by rw [crcBits_xor, h, BitVec.xor_self]
  exact BitVec.xor_eq_zero_iff.mp (crcBits_eq_zero hzero)

theorem hiByte_eq_shift (v : Half) : (hiByte v).setWidth 16 = v >>> 8 := by
  ext i hi
  rw [BitVec.getElem_setWidth, hiByte, BitVec.getLsbD_extractLsb', BitVec.getElem_ushiftRight]
  by_cases h8 : i < 8
  · rw [decide_eq_true h8, Bool.true_and]
  · rw [decide_eq_false h8, Bool.false_and, BitVec.getLsbD_of_ge v _ (by omega)]

/-- A value is its high byte over its low byte. -/
theorem xor_loByte_eq_shift (v : Half) : v ^^^ (loByte v).setWidth 16 = (hiByte v).setWidth 16 <<< 8 := by
  rw [hiByte_eq_shift]
  ext i hi
  by_cases h8 : i < 8
  · simp [loByte, h8, BitVec.getLsbD_eq_getElem hi]
  · have e : 8 + (i - 8) = i := by omega
    simp [loByte, h8, e, BitVec.getLsbD_eq_getElem hi]

/-- Shifting out the eight clear bits below a byte. -/
theorem crcBits_eight_byte (b : Byte) : crcBits 8 (b.setWidth 16 <<< 8) = b.setWidth 16 := by
  rw [crcBits_of_low_zero fun i hi => by simp [hi]]
  ext i hi
  by_cases h8 : 8 + i < 16
  · simp [h8]
  · simp [h8, BitVec.getLsbD_of_ge b i (by omega)]

/-- Eight bits of the shift are the table entry of the low byte, over the high byte (R144). -/
theorem crcBits_eight (v : Half) : crcBits 8 v = crcTable (loByte v) ^^^ (v >>> 8) := by
  have hsplit : v = (loByte v).setWidth 16 ^^^ (hiByte v).setWidth 16 <<< 8 := by
    rw [← xor_loByte_eq_shift, BitVec.xor_comm v, ← BitVec.xor_assoc, BitVec.xor_self, BitVec.zero_xor]
  calc crcBits 8 v = crcBits 8 ((loByte v).setWidth 16 ^^^ (hiByte v).setWidth 16 <<< 8) := congrArg _ hsplit
    _ = crcTable (loByte v) ^^^ (v >>> 8) := by
      rw [crcBits_xor, ← crcTable_eq_crcBits, crcBits_eight_byte, hiByte_eq_shift]

theorem crcUpd_eq_serial (c : Half) (b : Byte) : crcUpd c b = crcUpdSerial c b := by
  have hbyte : b.setWidth 16 >>> 8 = 0#16 := by
    ext i hi
    simp
  have hb : (c ^^^ b.setWidth 16) >>> 8 = c >>> 8 := by
    rw [BitVec.ushiftRight_xor_distrib, hbyte, BitVec.xor_zero]
  rw [crcUpdSerial, crcBits_eight, hb, crcUpd]

/-- The update is one-to-one in c ^ b. -/
theorem crcUpd_inj {c d : Half} {a b : Byte} (h : crcUpd c a = crcUpd d b) :
    c ^^^ a.setWidth 16 = d ^^^ b.setWidth 16 := by
  rw [crcUpd_eq_serial, crcUpd_eq_serial] at h
  exact crcBits_inj h

/-- The same bytes fed to different CRCs leave different CRCs. -/
theorem crcFrom_inj {c d : Half} {bs : List Byte} (h : crcFrom c bs = crcFrom d bs) : c = d := by
  induction bs generalizing c d with
  | nil => exact h
  | cons b bs ih => exact (BitVec.xor_left_inj _).mp (crcUpd_inj (ih h))

/-- Different bytes fed to the same CRC leave different CRCs. -/
theorem crcUpd_byte_inj {c : Half} {a b : Byte} (h : crcUpd c a = crcUpd c b) : a = b := by
  have hw : a.setWidth 16 = b.setWidth 16 := (BitVec.xor_right_inj c).mp (crcUpd_inj h)
  have hlo := congrArg (BitVec.setWidth 8) hw
  rwa [BitVec.setWidth_setWidth_of_le _ (by decide), BitVec.setWidth_setWidth_of_le _ (by decide),
    BitVec.setWidth_eq, BitVec.setWidth_eq] at hlo

/-- Feeding a CRC its own low byte leaves its high byte, and feeding that leaves 0. -/
theorem crcUpd_loByte (c : Half) : crcUpd c (loByte c) = (hiByte c).setWidth 16 := by
  rw [crcUpd_eq_serial, crcUpdSerial, xor_loByte_eq_shift, crcBits_eight_byte]

theorem crcUpd_byte (b : Byte) : crcUpd (b.setWidth 16) b = 0#16 := by
  rw [crcUpd_eq_serial, crcUpdSerial, BitVec.xor_self]
  rfl

theorem crcFrom_trailer (c : Half) : crcFrom c [loByte c, hiByte c] = 0#16 := by
  rw [crcFrom_cons, crcUpd_loByte, crcFrom_cons, crcUpd_byte, crcFrom_nil]

theorem trailer_inj {as bs : List Byte} (h : trailer as = trailer bs) : crc16 as = crc16 bs := by
  simp only [trailer, List.cons.injEq, and_true] at h
  exact half_eq_iff.mpr h

/-! One flipped bit. -/

theorem xor_bit_ne (x : Byte) {b : Nat} (hb : b < 8) : x ^^^ 1#8 <<< b ≠ x := by
  intro h
  have hbit := congrArg (fun v : Byte => v.getLsbD b) h
  simp [hb] at hbit

/-- A flip changes one byte, at its index. -/
theorem flipBit_split {frame : List Byte} {i : Nat} (hi : i < frame.length) (b : Nat) :
    ∃ as x cs, frame = as ++ x :: cs ∧ as.length = i ∧ flipBit frame i b = as ++ (x ^^^ 1#8 <<< b) :: cs :=
  List.exists_of_modify _ hi

theorem flipBit_ne {frame : List Byte} {i b : Nat} (hi : i < frame.length) (hb : b < 8) : flipBit frame i b ≠ frame := by
  obtain ⟨as, x, cs, hframe, -, hflip⟩ := flipBit_split hi b
  rw [hflip, hframe]
  simpa using xor_bit_ne x hb

/-- A flipped bit changes the CRC: the update is one-to-one in the byte, and the bytes after it keep the difference. -/
theorem crc16_flipBit_ne {bs : List Byte} {i b : Nat} (hi : i < bs.length) (hb : b < 8) :
    crc16 (flipBit bs i b) ≠ crc16 bs := by
  obtain ⟨as, x, cs, hbs, -, hflip⟩ := flipBit_split hi b
  rw [hflip, hbs]
  intro h
  simp only [crc16, crcFrom_append, crcFrom_cons] at h
  exact xor_bit_ne x hb (crcUpd_byte_inj (crcFrom_inj h))

theorem flipBit_succ_cons (x : Byte) (frame : List Byte) (i b : Nat) :
    flipBit (x :: frame) (i + 1) b = x :: flipBit frame i b := rfl

theorem flipBit_append_left {as bs : List Byte} {i : Nat} (hi : i < as.length) (b : Nat) :
    flipBit (as ++ bs) i b = flipBit as i b ++ bs := by
  induction as generalizing i with
  | nil => contradiction
  | cons x as ih =>
    cases i with
    | zero => rfl
    | succ i =>
      rw [List.cons_append, flipBit_succ_cons, flipBit_succ_cons, ih (Nat.lt_of_succ_lt_succ hi), List.cons_append]

theorem flipBit_append_right (as : List Byte) {bs : List Byte} (i b : Nat) :
    flipBit (as ++ bs) (as.length + i) b = as ++ flipBit bs i b := by
  induction as with
  | nil => rw [List.length_nil, Nat.zero_add, List.nil_append, List.nil_append]
  | cons x as ih =>
    rw [List.cons_append, List.length_cons, Nat.add_right_comm, flipBit_succ_cons, ih, List.cons_append]

@[simp] theorem flipBit_length (frame : List Byte) (i b : Nat) : (flipBit frame i b).length = frame.length :=
  List.length_modify _ _ _

theorem flipBit_breaks_trailer {bs : List Byte} {i b : Nat} (hi : i < bs.length + 2) (hb : b < 8) :
    (flipBit (sealed bs) i b).drop bs.length ≠ trailer ((flipBit (sealed bs) i b).take bs.length) := by
  by_cases hbody : i < bs.length
  · rw [sealed, flipBit_append_left hbody, List.drop_left' (flipBit_length bs i b), List.take_left' (flipBit_length bs i b)]
    exact fun h => crc16_flipBit_ne hbody hb (trailer_inj h).symm
  · obtain ⟨j, rfl⟩ := Nat.exists_eq_add_of_le (Nat.le_of_not_lt hbody)
    rw [sealed, flipBit_append_right, List.drop_left, List.take_left]
    exact flipBit_ne (by rw [trailer_length]; omega) hb

/-! Sequences of commands. -/

theorem runInstrs_cons {i : Instr} {s t : State} (h : exec i s = .next t) (is : List Instr) :
    runInstrs (i :: is) s = runInstrs is t := by simp [runInstrs, h]

theorem runInstrs_append {is js : List Instr} {s t : State} (h : runInstrs is s = .next t) :
    runInstrs (is ++ js) s = runInstrs js t := by
  induction is generalizing s with
  | nil =>
    obtain rfl : s = t := Host.Outcome.next.inj h
    rfl
  | cons i is ih =>
    obtain ⟨u, hu⟩ := exec_completes i s
    rw [runInstrs_cons hu] at h
    rw [List.cons_append, runInstrs_cons hu, ih h]

/-- A command for each byte is a fold of what it does to the state. -/
theorem runInstrs_map {command : Byte → Instr} {effect : State → Byte → State}
    (h : ∀ s b, exec (command b) s = .next (effect s b)) (bs : List Byte) (s : State) :
    runInstrs (bs.map command) s = .next (bs.foldl effect s) := by
  induction bs generalizing s with
  | nil => rfl
  | cons b bs ih => rw [List.map_cons, runInstrs_cons (h s b), ih, List.foldl_cons]

theorem exec_crcByte (s : State) (b : Byte) : exec (.crcByte b) s = .next (s.setCrc (crcUpd s.crc b)) := rfl

theorem exec_crcInit (s : State) : exec .crcInit s = .next (s.setCrc crcSeed) := rfl

theorem foldl_crcByte (bs : List Byte) (s : State) :
    bs.foldl (fun s b => s.setCrc (crcUpd s.crc b)) s = s.setCrc (crcFrom s.crc bs) := by
  induction bs generalizing s with
  | nil => rfl
  | cons b bs ih =>
    rw [List.foldl_cons, ih]
    rfl

/-- TX_BYTE for each byte appends them all where they fit. -/
theorem foldl_txByte {bs : List Byte} {s : State} (h : s.tx.length + bs.length ≤ s.caps.tx) :
    bs.foldl (fun s b => txAppend [b] s) s = s.setTx (s.tx ++ bs) := by
  induction bs generalizing s with
  | nil => rw [List.append_nil]; rfl
  | cons b bs ih =>
    rw [List.length_cons] at h
    have hb : txAppend [b] s = s.setTx (s.tx ++ [b]) :=
      txAppend_of_fits (by rw [List.length_singleton]; omega)
    have hbs : (s.setTx (s.tx ++ [b])).tx.length + bs.length ≤ (s.setTx (s.tx ++ [b])).caps.tx := by
      rw [State.setTx_tx, State.setTx_caps, List.length_append, List.length_singleton]
      omega
    rw [List.foldl_cons, hb, ih hbs, State.setTx_tx, List.append_assoc]
    rfl

theorem runInstrs_txFrame {bs : List Byte} {s : State} (h : bs.length + 2 ≤ s.caps.tx) :
    runInstrs (Pseudo.expand (.txFrame bs)) s = .next ((s.setTx (sealed bs)).setTxOvf false) := by
  have hbytes := runInstrs_map exec_txByte bs ((s.setTx []).setTxOvf false)
  rw [foldl_txByte (by simpa using Nat.le_of_add_right_le h)] at hbytes
  rw [Pseudo.expand, runInstrs_cons (exec_txClear s), runInstrs_append hbytes]
  have hseal : txAppend (trailer bs) (((s.setTx []).setTxOvf false).setTx bs) =
      (s.setTx (sealed bs)).setTxOvf false := txAppend_of_fits (s := ((s.setTx []).setTxOvf false).setTx bs) h
  exact (runInstrs_cons (exec_txSeal _) []).trans (congrArg _ hseal)

end Sys2Proof.Machine

namespace Sys2Proof.Proofs

open Sys2Proof.Machine Sys2Proof.Spec

/-- Settles O28: the ROM is 256 fixed entries, each computed. -/
theorem crcTableFollowsFormula : Obligations.CrcTableFollowsFormula := crcTable_eq_crcBits

/-- Settles O29: the bit-serial shift is linear, so the low byte and the high byte are shifted apart. -/
theorem tableUpdateIsBitSerial : Obligations.TableUpdateIsBitSerial := crcUpd_eq_serial

/-- Settles O30: the trailer is the CRC's own two bytes. -/
theorem residueOfSealedFrameIsZero : Obligations.ResidueOfSealedFrameIsZero :=
  fun bs => (crcFrom_append crcSeed bs _).trans (crcFrom_trailer (crc16 bs))

/-- Settles O31: in the bytes the flip changes the CRC, and in the trailer it changes the trailer alone. -/
theorem singleBitFlipBreaksTrailer : Obligations.SingleBitFlipBreaksTrailer :=
  fun _ _ _ hi hb => flipBit_breaks_trailer hi hb

/-- Settles O26: CRC_INIT, one table update in the form of R141, and the fold of the updates. -/
theorem crcCommandsUpdateAccumulator : Obligations.CrcCommandsUpdateAccumulator := by
  refine fun s => ⟨exec_crcInit s, fun b => ?_, fun bs => ?_⟩
  · rw [exec_crcByte, crcUpd_eq_mask]
    rfl
  · rw [runInstrs_cons (exec_crcInit s), runInstrs_map exec_crcByte, foldl_crcByte]
    rfl

/-- Settles O36: each byte is appended, and the seal is the trailer of them all. -/
theorem txFrameBuildsSealedFrame : Obligations.TxFrameBuildsSealedFrame := fun _ _ h => runInstrs_txFrame h

/-- Settles O35: the byte sequence is TX_FRAME of the six header bytes. -/
theorem buildReadEqualsByteSequence : Obligations.BuildReadEqualsByteSequence :=
  fun s h => ⟨_, exec_txBuildRead s, runInstrs_txFrame (bs := readRequestHead s) h⟩

end Sys2Proof.Proofs
end

section
/-! PROOFS. Which frames a validation accepts (spec/43_rx_validation.md R203 to R213), the device exception (R205), one
flipped bit of an accepted frame (R216), and validating twice (R215). -/

namespace Sys2Proof.Machine

open Sys2Proof.Spec

theorem Checks.eq_clear_iff (k : Checks) : k = Checks.clear ↔
    k.ovf = false ∧ k.short = false ∧ k.addr = false ∧ k.devexc = false ∧ k.func = false ∧ k.bcount = false ∧
    k.crc = false ∧ k.len = false ∧ k.regs = false := by
  cases k
  simp [Checks.clear]

/-- A frame ends in its trailer exactly when it is a sealed one. -/
theorem ends_in_trailer_iff {frame : List Byte} (h : 2 ≤ frame.length) :
    frame.drop (frame.length - 2) = trailer (frame.take (frame.length - 2)) ↔ ∃ body, frame = sealed body := by
  constructor
  · intro htr
    exact ⟨_, by rw [sealed, ← htr, List.take_append_drop]⟩
  · rintro ⟨body, rfl⟩
    have hlen : (sealed body).length - 2 = body.length := by simp [sealed]
    rw [hlen, sealed, List.drop_left, List.take_left]

@[simp] theorem sealed_length (bs : List Byte) : (sealed bs).length = bs.length + 2 := by simp [sealed]

variable {m : ValidateMode} {len : Nat} {s : State}

/-- The exception form of a function code has bit 7 set (30_encoding R106). -/
theorem getLsbD_seven_exception (f : Byte) : (f ||| 0x80#8).getLsbD 7 = true := by
  rw [BitVec.getLsbD_or]
  exact Bool.or_true _

/-- The configured function code itself is never the exception form of it. -/
theorem not_deviceException_of_func (h : s.rx[1]? = some s.expFunc) : ¬ deviceException s := by
  rintro ⟨h7, hdev⟩
  have hf : s.expFunc = s.expFunc ||| 0x80#8 := Option.some.inj (h.symm.trans hdev)
  rw [hf, getLsbD_seven_exception] at h7
  contradiction

theorem checksOf_clear_iff_of_evaluable (he : evaluable s = true) : checksOf m len s = Checks.clear ↔
    s.rx[0]? = some s.expAddr ∧ s.rx[1]? = some s.expFunc ∧
    (m = .regs → 5 ≤ s.rx.length ∧ (s.rx[2]?).map BitVec.toNat = some (2 * s.expCount.toNat)) ∧
    (∃ body, s.rx = sealed body) ∧ s.rx.length = expectedLen m len s ∧ (m = .regs → 10 ≤ s.expCount.toNat) := by
  have hlen := four_le_length_of_evaluable he
  obtain ⟨hovf, hshort⟩ := checksOf_evaluable (m := m) (len := len) he
  rw [Checks.eq_clear_iff, ← ends_in_trailer_iff (by omega)]
  simp only [← Bool.not_eq_true, checksOf_addr_iff he, checksOf_devexc_iff he, checksOf_func_iff he,
    checksOf_bcount_iff he, checksOf_crc_iff he, checksOf_len_iff he, checksOf_regs_iff he, hovf, hshort, not_not,
    ne_eq, not_and, not_or, not_lt, true_and]
  constructor
  · rintro ⟨haddr, hdev, hfunc, hbcount, hcrc, hl, hregs⟩
    exact ⟨haddr, hfunc hdev, fun hm => hbcount hm hdev, hcrc, hl, fun hm => hregs hm hdev⟩
  · rintro ⟨haddr, hfunc, hbcount, hcrc, hl, hregs⟩
    exact ⟨haddr, not_deviceException_of_func hfunc, fun _ => hfunc, fun hm _ => hbcount hm, hcrc, hl,
      fun hm _ => hregs hm⟩

/-- A sealed frame of at least four bytes begins with the first two bytes of its body. -/
theorem sealed_head_iff {body : List Byte} (h : 4 ≤ (sealed body).length) (a f : Byte) :
    (sealed body)[0]? = some a ∧ (sealed body)[1]? = some f ↔ ∃ mid, body = a :: f :: mid := by
  match body, h with
  | [], h => simp at h
  | [_], h => simp at h
  | x :: y :: mid, _ => simp [sealed]

/-- A validation finds no failure exactly on a sealed frame of the configured address and function code that has the
length and, for registers, the byte count the command expects. -/
theorem checksOf_clear_iff : checksOf m len s = Checks.clear ↔
    s.rxOvf = false ∧ ∃ mid, s.rx = sealed (s.expAddr :: s.expFunc :: mid) ∧ s.rx.length = expectedLen m len s ∧
      (m = .regs → (mid[0]?).map BitVec.toNat = some (2 * s.expCount.toNat) ∧ 10 ≤ s.expCount.toNat) := by
  constructor
  · intro h
    have he := evaluable_of_clear h
    obtain ⟨haddr, hfunc, hbcount, ⟨body, hbody⟩, hlen, hregs⟩ := (checksOf_clear_iff_of_evaluable he).mp h
    have hfour := four_le_length_of_evaluable he
    rw [hbody] at haddr hfunc hfour
    obtain ⟨mid, rfl⟩ := (sealed_head_iff hfour _ _).mp ⟨haddr, hfunc⟩
    refine ⟨(evaluable_iff.mp he).1, mid, hbody, hlen, fun hm => ⟨?_, hregs hm⟩⟩
    obtain ⟨hfive, hcount⟩ := hbcount hm
    rw [hbody] at hfive hcount
    cases mid with
    | nil => simp at hfive
    | cons n payload => exact hcount
  · rintro ⟨hovf, mid, hrx, hlen, hregs⟩
    have he : evaluable s = true := evaluable_iff.mpr ⟨hovf, by rw [hrx]; simp⟩
    refine (checksOf_clear_iff_of_evaluable he).mpr ⟨by rw [hrx]; rfl, by rw [hrx]; rfl, fun hm => ?_, ⟨_, hrx⟩, hlen,
      fun hm => (hregs hm).2⟩
    obtain ⟨hcount, -⟩ := hregs hm
    cases mid with
    | nil => simp at hcount
    | cons n payload => exact ⟨by rw [hrx]; simp, by rw [hrx]; exact hcount⟩

/-- A frame that begins with the configured function code is not an exception response. -/
theorem not_isDevexc_of_head {mid : List Byte} (hovf : s.rxOvf = false)
    (hrx : s.rx = sealed (s.expAddr :: s.expFunc :: mid)) : isDevexc s = false :=
  (not_isDevexc_iff (evaluable_iff.mpr ⟨hovf, by rw [hrx]; simp⟩)).mpr
    (not_deviceException_of_func (by rw [hrx]; rfl))

/-- The acknowledgments VALIDATE_ACK accepts (R213). -/
theorem checksOf_ack_clear_iff : checksOf .ack len s = Checks.clear ↔
    s.rxOvf = false ∧ s.rx.length = len ∧ ∃ mid, s.rx = sealed (s.expAddr :: s.expFunc :: mid) := by
  rw [checksOf_clear_iff]
  constructor
  · rintro ⟨hovf, mid, hrx, hlen, -⟩
    exact ⟨hovf, hlen.trans (expectedLen_ack (not_isDevexc_of_head hovf hrx)), mid, hrx⟩
  · rintro ⟨hovf, hlen, mid, hrx⟩
    exact ⟨hovf, mid, hrx, hlen.trans (expectedLen_ack (not_isDevexc_of_head hovf hrx)).symm, nofun⟩

/-- The register responses VALIDATE_REGS accepts (R212, 30_encoding R104). -/
theorem checksOf_regs_clear_iff : checksOf .regs len s = Checks.clear ↔
    s.rxOvf = false ∧ 10 ≤ s.expCount.toNat ∧ s.expCount.toNat ≤ 127 ∧
      ∃ payload : List Byte, payload.length = 2 * s.expCount.toNat ∧
        s.rx = sealed (s.expAddr :: s.expFunc :: BitVec.ofNat 8 (2 * s.expCount.toNat) :: payload) := by
  rw [checksOf_clear_iff]
  constructor
  · rintro ⟨hovf, mid, hrx, hlen, hregs⟩
    obtain ⟨hcount, hten⟩ := hregs rfl
    rw [expectedLen_regs (not_isDevexc_of_head hovf hrx), hrx] at hlen
    cases mid with
    | nil => simp at hcount
    | cons n payload =>
      have hn : n.toNat = 2 * s.expCount.toNat := Option.some.inj hcount
      have hnlt := n.isLt
      refine ⟨hovf, hten, by omega, payload, ?_, ?_⟩
      · simp only [sealed_length, List.length_cons] at hlen
        omega
      · rw [hrx, ← hn, BitVec.ofNat_toNat, BitVec.setWidth_eq]
  · rintro ⟨hovf, hten, hmax, payload, hpayload, hrx⟩
    refine ⟨hovf, _, hrx, ?_, fun _ => ⟨?_, hten⟩⟩
    · rw [expectedLen_regs (not_isDevexc_of_head hovf hrx), hrx]
      simp only [sealed_length, List.length_cons]
      omega
    · rw [List.getElem?_cons_zero, Option.map_some, BitVec.toNat_ofNat, Nat.mod_eq_of_lt (by omega)]

/-- No failure, no error class. -/
theorem outcomeOf_errKind_none_iff : (outcomeOf m len s).errKind = .none ↔ checksOf m len s = Checks.clear :=
  (Cause.kind_eq_none_iff _).trans Checks.cause_none

theorem loadRegs_errKind (r : Result) (frame : List Byte) : (loadRegs r frame).errKind = r.errKind := by
  rcases loadRegs_cases r frame with ⟨-, e⟩ | ⟨-, e⟩ <;> rw [e]

theorem loadRegs_cause (r : Result) (frame : List Byte) : (loadRegs r frame).cause = r.cause := by
  rcases loadRegs_cases r frame with ⟨-, e⟩ | ⟨-, e⟩ <;> rw [e]

theorem loadRegs_checks (r : Result) (frame : List Byte) : (loadRegs r frame).checks = r.checks := by
  rcases loadRegs_cases r frame with ⟨-, e⟩ | ⟨-, e⟩ <;> rw [e]

/-- VALIDATE_REGS records a measurement exactly when no check failed. -/
theorem validateRegs_valid_iff :
    (loadRegs (outcomeOf .regs 0 s) s.rx).valid = true ↔ checksOf .regs 0 s = Checks.clear := by
  rw [loadRegs_valid_iff rfl, loadRegs_cause]
  exact Checks.cause_none

/-! The device exception. -/

/-- In a sealed exception response that is the only failed check, in either mode and for any expected length. -/
theorem checksOf_exception {code : Byte} (hovf : s.rxOvf = false) (h7 : s.expFunc.getLsbD 7 = false)
    (hrx : s.rx = sealed [s.expAddr, s.expFunc ||| 0x80#8, code]) :
    checksOf m len s = { Checks.clear with devexc := true } := by
  have he : evaluable s = true := evaluable_iff.mpr ⟨hovf, by rw [hrx]; simp⟩
  have hdev : isDevexc s = true := (isDevexc_iff he).mpr ⟨h7, by rw [hrx]; rfl⟩
  have hlen : s.rx.length = 5 := by rw [hrx]; rfl
  have haddr : byteAt s.rx 0 = s.expAddr := by rw [hrx]; rfl
  have hcrc : crc16 (bodyOf s.rx) = trailerOf s.rx :=
    (crc_matches_iff (by omega)).mpr ((ends_in_trailer_iff (by omega)).mpr ⟨_, hrx⟩)
  simp [checksOf, Checks.clear, he, hdev, hlen, haddr, hcrc, expectedLen_of_devexc]

theorem excCodeOf_exception {code : Byte} (hovf : s.rxOvf = false) (h7 : s.expFunc.getLsbD 7 = false)
    (hrx : s.rx = sealed [s.expAddr, s.expFunc ||| 0x80#8, code]) : excCodeOf s = code := by
  obtain ⟨hexc, -⟩ := excCodeOf_excMean s
  have hcode := hexc ⟨hovf, ⟨h7, by rw [hrx]; rfl⟩, by rw [hrx]; simp⟩
  rw [hrx] at hcode
  exact (Option.some.inj hcode).symm

/-- What either validation records of it. -/
theorem outcomeOf_exception {code : Byte} (hovf : s.rxOvf = false) (h7 : s.expFunc.getLsbD 7 = false)
    (hrx : s.rx = sealed [s.expAddr, s.expFunc ||| 0x80#8, code]) :
    (outcomeOf m len s).cause = .devexc ∧ (outcomeOf m len s).errKind = .protocolError ∧
    (outcomeOf m len s).excCode = code ∧ (outcomeOf m len s).checks.bits = 0x008#9 ∧
    (outcomeOf m len s).valid = false := by
  have hchecks : (outcomeOf m len s).checks = { Checks.clear with devexc := true } := checksOf_exception hovf h7 hrx
  have hcause : (outcomeOf m len s).cause = .devexc := congrArg Checks.cause hchecks
  exact ⟨hcause, congrArg Cause.kind hcause, excCodeOf_exception hovf h7 hrx, congrArg Checks.bits hchecks, rfl⟩

/-! The cause of the first failed check, in the order of R211. -/

section

variable (he : evaluable s = true)

include he

theorem cause_addr (h0 : s.rx[0]? ≠ some s.expAddr) : (checksOf m len s).cause = .addr := by
  obtain ⟨hovf, hshort⟩ := checksOf_evaluable (m := m) (len := len) he
  simp [Checks.cause, hovf, hshort, checksOf_addr_iff he, h0]

variable (h0 : s.rx[0]? = some s.expAddr)

include h0

theorem cause_devexc (hdev : deviceException s) : (checksOf m len s).cause = .devexc := by
  obtain ⟨hovf, hshort⟩ := checksOf_evaluable (m := m) (len := len) he
  simp [Checks.cause, hovf, hshort, checksOf_addr_iff he, checksOf_devexc_iff he, h0, hdev]

theorem cause_func (hdev : ¬ deviceException s) (h1 : s.rx[1]? ≠ some s.expFunc) :
    (checksOf m len s).cause = .func := by
  obtain ⟨hovf, hshort⟩ := checksOf_evaluable (m := m) (len := len) he
  simp [Checks.cause, hovf, hshort, checksOf_addr_iff he, checksOf_devexc_iff he, checksOf_func_iff he, h0, hdev, h1]

variable (h1 : s.rx[1]? = some s.expFunc)

include h1

theorem cause_bcount (h2 : (s.rx[2]?).map BitVec.toNat ≠ some (2 * s.expCount.toNat)) :
    (checksOf .regs len s).cause = .bcount := by
  obtain ⟨hovf, hshort⟩ := checksOf_evaluable (m := .regs) (len := len) he
  have hdev := not_deviceException_of_func h1
  have hbcount : (checksOf .regs len s).bcount = true := (checksOf_bcount_iff he).mpr ⟨rfl, hdev, .inr h2⟩
  simp [Checks.cause, hovf, hshort, checksOf_addr_iff he, checksOf_devexc_iff he, checksOf_func_iff he, h0, hdev, h1,
    hbcount]

theorem cause_crc (hfive : 5 ≤ s.rx.length) (h2 : (s.rx[2]?).map BitVec.toNat = some (2 * s.expCount.toNat))
    (hcrc : (checksOf .regs len s).crc = true) : (checksOf .regs len s).cause = .crc := by
  obtain ⟨hovf, hshort⟩ := checksOf_evaluable (m := .regs) (len := len) he
  have hdev := not_deviceException_of_func h1
  have hbcount : ¬ (checksOf .regs len s).bcount = true := by
    rw [checksOf_bcount_iff he]
    rintro ⟨-, -, hshort5 | hno⟩
    · omega
    · exact hno h2
  simp [Checks.cause, hovf, hshort, checksOf_addr_iff he, checksOf_devexc_iff he, checksOf_func_iff he, h0, hdev, h1,
    hbcount, hcrc]

end

/-! One flipped bit of an accepted register response (R216). -/

theorem getLsbD_one_shift (b i : Nat) : (1#8 <<< b).getLsbD i = (decide (b < 8) && decide (b = i)) :=
  BitVec.getLsbD_twoPow b i

/-- A bit flip makes a function code its exception form only where bit 7 was clear and is the one flipped. -/
theorem xor_bit_eq_exception_iff {f : Byte} {b : Nat} (hb : b < 8) (h7 : f.getLsbD 7 = false) :
    f ^^^ 1#8 <<< b = f ||| 0x80#8 ↔ b = 7 := by
  constructor
  · intro h
    have hbit := congrArg (fun v : Byte => v.getLsbD 7) h
    simpa only [getLsbD_seven_exception, BitVec.getLsbD_xor, h7, Bool.false_xor, getLsbD_one_shift, hb, decide_true,
      Bool.true_and, decide_eq_true_eq] using hbit
  · rintro rfl
    refine BitVec.eq_of_getLsbD_eq fun i hi => ?_
    have h80 : (0x80#8).getLsbD i = decide (7 = i) := getLsbD_one_shift 7 i
    have hshift : (1#8 <<< 7).getLsbD i = decide (7 = i) := getLsbD_one_shift 7 i
    rw [BitVec.getLsbD_xor, BitVec.getLsbD_or, h80, hshift]
    by_cases hi7 : 7 = i
    · rw [← hi7, h7]
      rfl
    · rw [decide_eq_false hi7, Bool.xor_false, Bool.or_false]

/-- The frame in rx with bit b of byte i flipped. -/
def corrupt (s : State) (i b : Nat) : State := s.setRx (flipBit s.rx i b)

theorem corrupt_evaluable {i b : Nat} (he : evaluable s = true) : evaluable (corrupt s i b) = true := by
  obtain ⟨hovf, hlen⟩ := evaluable_iff.mp he
  exact evaluable_iff.mpr ⟨hovf, hlen.trans_eq (flipBit_length s.rx i b).symm⟩

theorem corrupt_crc {i b : Nat} {body : List Byte} (he : evaluable s = true) (hrx : s.rx = sealed body)
    (hi : i < s.rx.length) (hb : b < 8) : (checksOf m len (corrupt s i b)).crc = true := by
  rw [checksOf_crc_iff (corrupt_evaluable he)]
  have hlen : (corrupt s i b).rx.length - 2 = body.length := by simp [corrupt, hrx]
  rw [hlen, corrupt, State.setRx_rx, hrx]
  exact flipBit_breaks_trailer (by simpa [hrx] using hi) hb

/-- The cause of its place. -/
theorem corrupt_cause {i b : Nat} (h : checksOf .regs 0 s = Checks.clear) (hi : i < s.rx.length) (hb : b < 8) :
    (checksOf .regs 0 (corrupt s i b)).cause =
      if i = 0 then .addr
      else if i = 1 then (if b = 7 ∧ s.expFunc.getLsbD 7 = false then .devexc else .func)
      else if i = 2 then .bcount
      else .crc := by
  have he := evaluable_of_clear h
  have hec := corrupt_evaluable (i := i) (b := b) he
  obtain ⟨-, hten, hmax, payload, hpayload, hrx⟩ := checksOf_regs_clear_iff.mp h
  have hcrc := corrupt_crc (m := .regs) (len := 0) he hrx hi hb
  have hframe : s.rx = s.expAddr :: s.expFunc :: BitVec.ofNat 8 (2 * s.expCount.toNat) :: (payload ++ trailer _) := hrx
  have hcount : (BitVec.ofNat 8 (2 * s.expCount.toNat)).toNat = 2 * s.expCount.toNat := by
    rw [BitVec.toNat_ofNat, Nat.mod_eq_of_lt (by omega)]
  have hxrx : (corrupt s i b).rx = flipBit _ i b := congrArg (fun frame => flipBit frame i b) hframe
  match i with
  | 0 =>
    refine cause_addr hec ?_
    rw [hxrx]
    exact fun h => xor_bit_ne _ hb (Option.some.inj h)
  | 1 =>
    have h0 : (corrupt s 1 b).rx[0]? = some s.expAddr := by rw [hxrx]; rfl
    have h1 : (corrupt s 1 b).rx[1]? = some (s.expFunc ^^^ 1#8 <<< b) := by rw [hxrx]; rfl
    have hdev : deviceException (corrupt s 1 b) ↔ b = 7 ∧ s.expFunc.getLsbD 7 = false := by
      rw [deviceException, h1, and_comm, Option.some_inj]
      exact and_congr_left (xor_bit_eq_exception_iff hb)
    by_cases hd : b = 7 ∧ s.expFunc.getLsbD 7 = false
    · exact (cause_devexc hec h0 (hdev.mpr hd)).trans (if_pos hd).symm
    · have hfunc : (corrupt s 1 b).rx[1]? ≠ some (corrupt s 1 b).expFunc := by
        rw [h1]
        exact fun h => xor_bit_ne _ hb (Option.some.inj h)
      exact (cause_func hec h0 (mt hdev.mp hd) hfunc).trans (if_neg hd).symm
  | 2 =>
    refine cause_bcount hec (by rw [hxrx]; rfl) (by rw [hxrx]; rfl) ?_
    rw [hxrx]
    intro h
    refine xor_bit_ne _ hb (BitVec.eq_of_toNat_eq ((Option.some.inj h).trans hcount.symm))
  | i + 3 =>
    refine cause_crc hec (by rw [hxrx]; rfl) (by rw [hxrx]; rfl) ?_ ?_ hcrc
    · have hlen : (corrupt s (i + 3) b).rx.length = s.rx.length := flipBit_length s.rx (i + 3) b
      rw [hlen, hrx, sealed_length, List.length_cons, List.length_cons, List.length_cons]
      omega
    · rw [hxrx]
      exact congrArg some hcount

/-- What VALIDATE_REGS records of it: no measurement and a protocol error. -/
theorem corrupt_rejected {i b : Nat} (h : checksOf .regs 0 s = Checks.clear) (hi : i < s.rx.length) (hb : b < 8) :
    (loadRegs (outcomeOf .regs 0 (corrupt s i b)) (corrupt s i b).rx).valid = false ∧
    (outcomeOf .regs 0 (corrupt s i b)).errKind = .protocolError ∧
    (checksOf .regs 0 (corrupt s i b)).crc = true := by
  obtain ⟨-, -, -, payload, -, hrx⟩ := checksOf_regs_clear_iff.mp h
  have hcrc := corrupt_crc (m := .regs) (len := 0) (evaluable_of_clear h) hrx hi hb
  refine ⟨?_, ?_, hcrc⟩
  · rw [← Bool.not_eq_true, validateRegs_valid_iff]
    intro hclear
    rw [hclear] at hcrc
    contradiction
  · have hkind : (outcomeOf .regs 0 (corrupt s i b)).errKind = (checksOf .regs 0 (corrupt s i b)).cause.kind := rfl
    rw [hkind, corrupt_cause h hi hb]
    split_ifs <;> rfl

/-! A received response. -/

/-- The bytes of a register list, high byte first (30_encoding R109). -/
def regBytes (regs : List Half) : List Byte := regs.flatMap fun v => [hiByte v, loByte v]

theorem regBytes_length (regs : List Half) : (regBytes regs).length = 2 * regs.length := by
  simp [regBytes, List.length_flatMap, Nat.mul_comm]

theorem byteAt_regBytes {regs : List Half} {i : Nat} (hi : i < regs.length) (after : List Byte) :
    byteAt (regBytes regs ++ after) (2 * i) = hiByte regs[i] ∧
    byteAt (regBytes regs ++ after) (2 * i + 1) = loByte regs[i] := by
  induction regs generalizing i with
  | nil => contradiction
  | cons v regs ih =>
    cases i with
    | zero => exact ⟨rfl, rfl⟩
    | succ i => exact ih (Nat.lt_of_succ_lt_succ hi)

theorem payloadRegs_responseFrame (addr func : Byte) (regs : Vector Half 10) :
    payloadRegs (responseFrame addr func regs) = regs := by
  refine Vector.ext fun i hi => ?_
  have hframe : responseFrame addr func regs = addr :: func :: 20#8 :: (regBytes regs.toList ++ trailer _) := rfl
  obtain ⟨hhi, hlo⟩ := byteAt_regBytes (regs := regs.toList) (i := i) (by simpa using hi)
    (trailer (addr :: func :: 20#8 :: regBytes regs.toList))
  have hreg : (payloadRegs (responseFrame addr func regs))[i] = payloadReg (responseFrame addr func regs) i := by
    simp [payloadRegs]
  have e3 : 3 + 2 * i = 2 * i + 1 + 1 + 1 := by omega
  have e4 : 4 + 2 * i = 2 * i + 1 + 1 + 1 + 1 := by omega
  rw [hreg, payloadReg, e3, e4]
  have h3 : byteAt (responseFrame addr func regs) (2 * i + 1 + 1 + 1) = _ := hhi
  have h4 : byteAt (responseFrame addr func regs) (2 * i + 1 + 1 + 1 + 1) = _ := hlo
  rw [h3, h4, halfOf_hiByte_loByte]
  simp

theorem responseFrame_length (addr func : Byte) (regs : Vector Half 10) :
    (responseFrame addr func regs).length = 25 := by
  have hframe : responseFrame addr func regs = sealed (addr :: func :: 20#8 :: regBytes regs.toList) := rfl
  rw [hframe]
  simp [regBytes_length]

/-- RX_BYTE for each byte, after a cleared outcome, appends them all where they fit. -/
theorem foldl_rxByte {bs : List Byte} {s : State} (hres : s.result = Result.cleared)
    (h : s.rx.length + bs.length ≤ s.caps.rx) :
    bs.foldl (fun s b => clearResult (rxAppend b s)) s = s.setRx (s.rx ++ bs) := by
  induction bs generalizing s with
  | nil => rw [List.append_nil]; rfl
  | cons b bs ih =>
    rw [List.length_cons] at h
    have hb : clearResult (rxAppend b s) = s.setRx (s.rx ++ [b]) := by
      rw [rxAppend_of_room b (by omega), clearResult, ← hres]
      rfl
    have hbs : (s.setRx (s.rx ++ [b])).rx.length + bs.length ≤ (s.setRx (s.rx ++ [b])).caps.rx := by
      rw [State.setRx_rx, State.setRx_caps, List.length_append, List.length_singleton]
      omega
    rw [List.foldl_cons, hb, ih (s := s.setRx (s.rx ++ [b])) hres hbs, State.setRx_rx, List.append_assoc]
    rfl

/-- RX_FRAME of bytes that fit leaves them in rx, with no overflow and no outcome (30_encoding R114). -/
theorem runInstrs_rxFrame {bs : List Byte} {s : State} (h : bs.length ≤ s.caps.rx) :
    runInstrs (Pseudo.expand (.rxFrame bs)) s = .next ((clearResult (s.setRxOvf false)).setRx bs) := by
  have hbytes := runInstrs_map exec_rxByte bs (clearResult ((s.setRx []).setRxOvf false))
  rw [foldl_rxByte rfl (by simpa using h)] at hbytes
  exact (runInstrs_cons (exec_rxClear s) _).trans hbytes

/-- VALIDATE_REGS on the response to a read of ten registers loads them. -/
theorem validateRegs_responseFrame {regs : Vector Half 10} (hovf : s.rxOvf = false) (hcount : s.expCount = 10#16)
    (hrx : s.rx = responseFrame s.expAddr s.expFunc regs) :
    let r := loadRegs (outcomeOf .regs 0 s) s.rx
    r.valid = true ∧ r.errKind = .none ∧ r.reg = regs := by
  have hclear : checksOf .regs 0 s = Checks.clear := by
    refine checksOf_regs_clear_iff.mpr ⟨hovf, ?_⟩
    rw [hcount]
    refine ⟨by decide, by decide, regBytes regs.toList, ?_, hrx⟩
    rw [regBytes_length, Vector.length_toList]
    rfl
  refine ⟨validateRegs_valid_iff.mpr hclear, ?_, ?_⟩
  · rw [loadRegs_errKind]
    exact outcomeOf_errKind_none_iff.mpr hclear
  · have hcause : (outcomeOf .regs 0 s).cause = .none := Checks.cause_none.mpr hclear
    rw [loadRegs, if_pos hcause, hrx, payloadRegs_responseFrame]

end Sys2Proof.Machine

namespace Sys2Proof.Proofs

open Sys2Proof.Machine Sys2Proof.Spec

/-- Settles O41: the checks of a good register response, and the loading of its registers exactly when they pass. -/
theorem validateRegsAcceptsExactlyGoodFrames : Obligations.ValidateRegsAcceptsExactlyGoodFrames := by
  intro s
  refine ⟨_, exec_validateRegs s, validateRegs_valid_iff.trans checksOf_regs_clear_iff, ?_⟩
  rw [validateRegs_valid_iff, loadRegs_errKind, outcomeOf_errKind_none_iff]

/-- Settles O42: the checks of a good acknowledgment. -/
theorem validateAckAcceptsExactlyGoodAcks : Obligations.ValidateAckAcceptsExactlyGoodAcks := fun s len =>
  ⟨_, exec_validateAck len s, rfl, Result.cleared_reg, outcomeOf_errKind_none_iff.trans checksOf_ack_clear_iff⟩

/-- Settles O43: the exception is the only failed check, and so both commands record the same outcome. -/
theorem deviceExceptionIsReported : Obligations.DeviceExceptionIsReported := by
  rintro s t code hovf h7 hrx (ht | ⟨len, ht⟩)
  · have hout := outcomeOf_exception (m := .regs) (len := 0) hovf h7 hrx
    have ⟨hcause, _⟩ := hout
    have hload : loadRegs (outcomeOf .regs 0 s) s.rx = outcomeOf .regs 0 s := if_neg (by rw [hcause]; decide)
    rw [← Host.Outcome.next.inj ((exec_validateRegs s).symm.trans ht), State.setResult_result, hload]
    exact hout
  · rw [← Host.Outcome.next.inj ((exec_validateAck len s).symm.trans ht)]
    exact outcomeOf_exception hovf h7 hrx

/-- Settles O45: the flipped bit breaks the trailer, and the checks before the CRC tell its place. -/
theorem corruptedFrameIsRejected : Obligations.CorruptedFrameIsRejected := by
  intro s t i b ht hvalid hi hb
  rw [← Host.Outcome.next.inj ((exec_validateRegs s).symm.trans ht), State.setResult_result, validateRegs_valid_iff]
    at hvalid
  obtain ⟨hv, hkind, hcrc⟩ := corrupt_rejected hvalid hi hb
  refine ⟨_, exec_validateRegs (corrupt s i b), hv, ?_, ?_, ?_⟩
  · rw [State.setResult_result, loadRegs_errKind, hkind]
  · rw [State.setResult_result, loadRegs_checks]
    exact hcrc
  · rw [State.setResult_result, loadRegs_cause]
    exact corrupt_cause hvalid hi hb

/-- Settles O46: the outcome does not depend on the result group it replaces. -/
theorem validationIsIdempotent : Obligations.ValidationIsIdempotent := by
  refine fun s t => ⟨fun h => ?_, fun len h => ?_⟩ <;> obtain rfl := Host.Outcome.next.inj h <;> rfl

/-- Settles O44: the response is received whole, it passes every check, and its registers are the ones loaded. -/
theorem responseDecodesToItsRegisters : Obligations.ResponseDecodesToItsRegisters := by
  intro s regs hcaps hcount
  obtain ⟨hrxcap, -⟩ := hcaps
  have hreceive := runInstrs_rxFrame (bs := responseFrame s.expAddr s.expFunc regs) (s := s)
    (by rw [responseFrame_length]; exact hrxcap)
  obtain ⟨hvalid, hkind, hreg⟩ := validateRegs_responseFrame (regs := regs)
    (s := (clearResult (s.setRxOvf false)).setRx (responseFrame s.expAddr s.expFunc regs)) rfl hcount rfl
  refine ⟨_, (runInstrs_append hreceive).trans (runInstrs_cons (exec_validateRegs _) []), hvalid, hkind, hreg,
    fun k => ?_⟩
  obtain ⟨q, hq⟩ := Quantity.exists_index_eq k
  rw [← hq, q.mantissaFormula_index]
  refine congrArg some ((q.readNat_word _ (j := 0) (by decide)).trans ?_)
  rw [State.setResult_result, hreg]
  rfl

end Sys2Proof.Proofs
end

section
/-! PROOFS. The words of a block without a measurement (spec/44_decoder.md R253) and the exact decimal value (R241,
R254). -/

namespace Sys2Proof.Machine

open Sys2Proof.Spec

namespace Quantity

/-- Without register values every mantissa is 0. -/
theorem mantissa_zero (q : Quantity) : q.mantissa (Vector.replicate 10 0#16) = 0#32 := by cases q <;> rfl

theorem quotient_zero (q : Quantity) : q.quotient (Vector.replicate 10 0#16) = 0#32 := by
  rw [quotient, mantissa_zero, BitVec.zero_udiv]

theorem remainder_zero (q : Quantity) : q.remainder (Vector.replicate 10 0#16) = 0#32 := by
  rw [remainder, mantissa_zero, BitVec.zero_umod]

/-- M / D = Q + R / D as exact rationals. -/
theorem value_eq (q : Quantity) (reg : Vector Half 10) :
    q.value reg = ((q.quotient reg).toNat : Rat) + ((q.remainder reg).toNat : Rat) / (q.divisor.toNat : Rat) := by
  have hD : (q.divisor.toNat : Rat) ≠ 0 := Nat.cast_ne_zero.mpr q.divisor_pos.ne'
  rw [value, q.mantissa_eq, Nat.cast_add, Nat.cast_mul, add_div, mul_div_cancel_right₀ _ hD]

theorem divisor_eq_pow (q : Quantity) : q.divisor.toNat = 10 ^ q.decimals := by cases q <;> rfl

end Quantity

theorem decimalDigits_length (n v : Nat) : (decimalDigits n v).length = n := by
  induction n generalizing v with
  | zero => rfl
  | succ n ih => rw [decimalDigits, List.length_append, ih, List.length_singleton]

/-- The n lowest digits of v read as v mod 10^n. -/
theorem ofDigits_decimalDigits (n v : Nat) : Nat.ofDigits 10 (decimalDigits n v).reverse = v % 10 ^ n := by
  induction n generalizing v with
  | zero => rw [decimalDigits, List.reverse_nil, Nat.ofDigits_nil, pow_zero, Nat.mod_one]
  | succ n ih =>
    rw [decimalDigits, List.reverse_append, List.reverse_singleton, List.singleton_append, Nat.ofDigits_cons, ih,
      pow_succ', Nat.mod_mul]

end Sys2Proof.Machine

namespace Sys2Proof.Proofs

open Sys2Proof.Machine Sys2Proof.Spec

/-- Settles O49: by the sentinel the registers are 0, and so are M, Q and R of every quantity. -/
theorem sentinelWordsReadZero : Obligations.SentinelWordsReadZero := by
  intro s k hsentinel hvalid
  have hreg : s.result.reg = Vector.replicate 10 0#16 := hsentinel hvalid
  obtain ⟨q, hq⟩ := Quantity.exists_index_eq k
  rw [← hq, q.divisorTable_index]
  have hword {j : Nat} (hj : j < 4) : readNat s (0x020 + j + 4 * q.index) = (q.word j _).toNat :=
    hreg ▸ q.readNat_word s hj
  refine ⟨(hword (j := 0) (by decide)).trans ?_, (hword (j := 1) (by decide)).trans ?_,
    (hword (j := 2) (by decide)).trans ?_, congrArg some (hword (j := 3) (by decide))⟩
  · exact congrArg BitVec.toNat q.mantissa_zero
  · exact congrArg BitVec.toNat q.quotient_zero
  · exact congrArg BitVec.toNat q.remainder_zero

/-- Settles O50: Q and R are the division of M by D, a power of ten, and the digits are those of R, which is below D. -/
theorem valueIsExactDecimal : Obligations.ValueIsExactDecimal := by
  intro q reg
  refine ⟨q.value_eq reg, q.divisor_eq_pow, decimalDigits_length _ _, ?_⟩
  have hlt := q.remainder_lt reg
  rw [q.divisor_eq_pow] at hlt
  exact (ofDigits_decimalDigits _ _).trans (Nat.mod_eq_of_lt hlt)

end Sys2Proof.Proofs
end
